-- ==== Sys2Proof/Word.lean ====
section
/-! DEFINITION. Word types of the S480, its fixed-length tables, and the ranges of its identities. -/
namespace Sys2Proof

/-- An octet (10, first paragraph). -/
abbrev Byte := BitVec 8
/-- An ABCD code, A first (00, Names). -/
abbrev Code := BitVec 4
/-- A 16-bit field: tags, span frame numbers, counters. -/
abbrev Word16 := BitVec 16
/-- The 32-bit site frame count (R12), and every frame named by it. -/
abbrev Frame := BitVec 32

/-- Trunk k, 0 to 15 (00, Trunks and ports). -/
abbrev TrunkId := Fin 16
/-- A circuit by its place in identity order (R43). -/
abbrev CircuitId := Fin 480
/-- A span slot (00, Span slots). -/
abbrev SlotId := Fin 512
/-- A move slot (R77). -/
abbrev MoveId := Fin 64
/-- A correlator (R115). -/
abbrev CorrId := Fin 8

/-- A table of exactly `n` entries. The length is carried once, so no later proof proves it again. -/
structure Table (n : Nat) (α : Type) where
  cells : List α
  len : cells.length = n
  deriving DecidableEq, Repr

end Sys2Proof
end

