-- ==== Sys2Proof/Syntax.lean ====
section
/-! DEFINITION. The commands of the block: one constructor per row of spec/opcode_table.json, with its operands. -/
namespace Sys2Proof

/-- The levels on the strap pins (R21). -/
structure Straps where
  site : BitVec 2
  mgmt : BitVec 5
  mslot : BitVec 1
  ref : BitVec 4
  deriving DecidableEq, Repr

/-- The two management entries (09). -/
inductive Entry
  | slot
  | span
  deriving DecidableEq, Repr

/-- A switch port Sk or a line port Lk. -/
inductive PortId
  | sw (k : TrunkId)
  | line (k : TrunkId)
  deriving DecidableEq, Repr

/-- The steps of the device. Request rows carry the entry they arrive on, the request's tag and the octets of 10.6;
indices of internal steps are bounded by their type; streams are lists of octets. -/
inductive Instr
  | deviceReset (pins : Straps)
  | siteFrame
  | slotCellEnd
  | portLos (p : PortId) (noSignal : Bool)
  | portFrameReceived (p : PortId) (octets : List Byte)
  | siteTimingLock
  | settleComplete (k : TrunkId)
  | deviceRunning
  | spanLos (noSignal : Bool)
  | spanFrameReceived (octets : List Byte)
  | degradeIntervalEnd
  | restoreTimerExpiry (c : CircuitId)
  | freezeWindowEnd (c : CircuitId)
  | noticeTaken
  | blockReceived
  | swapReceived
  | forcedSwapReceived
  | bridgeReceived
  | rolledReceived
  | releaseReceived
  | abandonReceived
  | blockedReceived
  | swappedReceived
  | bridgedReceived
  | notedReceived
  | releasedReceived
  | abandonedReceived
  | refuseReceived
  | repeatTimerExpiry (m : MoveId)
  | peerProgressExpiry (m : MoveId)
  | quietWaitExpiry (m : MoveId)
  | validityExpiry (m : MoveId)
  | soakExpiry (m : MoveId)
  | rollMade (m : MoveId)
  | correlatorGrant
  | windowEvaluation (i : CorrId)
  | alignmentTimeout (i : CorrId)
  | quietTest (m : MoveId)
  | orderPromotion
  | orderResolution
  | orderGrant
  | deadlineExpiry (number : Byte)
  | slotCellTaken
  | spanCellTaken
  | proxyRequest (tag : Byte) (body : List Byte)
  | proxyResponse (tag status : Byte) (body : List Byte)
  | proxyTimeout
  | status (e : Entry) (tag part start : Byte)
  | readCircuitsRange (e : Entry) (tag trunk first last : Byte)
  | readCircuitsSlot (e : Entry) (tag : Byte) (slot : Word16)
  | setCircuit (e : Entry) (tag trunk channel : Byte) (slot : Word16) (policy rollOnCommand pin : Byte)
  | fillBlock (e : Entry) (tag trunk block ordering key policy : Byte)
  | move (e : Entry) (tag trunk channel : Byte)
  | ret (e : Entry) (tag trunk channel : Byte)
  | roll (e : Entry) (tag trunk channel : Byte)
  | release (e : Entry) (tag trunk channel : Byte)
  | abandon (e : Entry) (tag trunk channel : Byte)
  | pin (e : Entry) (tag trunk channel : Byte)
  | unpin (e : Entry) (tag trunk channel : Byte)
  | unblock (e : Entry) (tag trunk channel : Byte)
  | readTrunk (e : Entry) (tag trunk clearing : Byte)
  | setTrunkFunction (e : Entry) (tag trunk function : Byte)
  | setTrunkCodes (e : Entry) (tag trunk named idle blocking vacant : Byte)
  | insert (e : Entry) (tag trunk : Byte)
  | withdraw (e : Entry) (tag trunk : Byte)
  | readParameters (e : Entry) (tag : Byte)
  | setParameters (e : Entry) (tag : Byte) (entries : List (Byte × Word16))
  | postOrder (e : Entry) (tag trunk first last direction : Byte) (deadline : Word16)
  | cancelOrder (e : Entry) (tag number : Byte)
  | removeOrder (e : Entry) (tag number : Byte)
  | readOrders (e : Entry) (tag flags number : Byte)
  | clearCauses (e : Entry) (tag : Byte) (mask : Word16)
  | setEnables (e : Entry) (tag : Byte) (mask : Word16)
  | readCounters (e : Entry) (tag group clearing : Byte)
  | restart (e : Entry) (tag : Byte)
  | restartReset (pins : Straps)
  | deviceUnpowered
  deriving DecidableEq, Repr

end Sys2Proof
end

