-- ==== Sys2Proof/Config.lean ====
section
/-! DEFINITION. What the manual fixes as numbers, and the values it leaves open (free values: constants with no body). -/
namespace Sys2Proof

/-- Frames in one second of site timing (R12). -/
def framesPerSecond : Nat := 8000
/-- Settle time and qualification time in frames (R13, R18), and the start of RUNNING (R22). -/
def settleFrames : Nat := 8000
/-- Capacity of each management entry's outbound queue (R168, R170). -/
def cellQueueSize : Nat := 16
/-- Capacity of the outbound notice queue (R151). -/
def outboundSize : Nat := 128
/-- Capacity of the inbound notice queue (R155). -/
def inboundSize : Nat := 64
/-- Most orders in the list (R133). -/
def orderListSize : Nat := 32
/-- Most orders ACTIVE together (R133, R138). -/
def activeOrders : Nat := 4
/-- Most move slots held by circuits that orders admitted (R77, R141). -/
def orderAllowance : Nat := 56
/-- Octets of a management cell's body (10.3). -/
def bodySize : Nat := 55

/-- FREE VALUE (log 13): the one octet of 10.7 that reports a next window index above 255. -/
opaque Config.nextWindowOctet : Nat → Byte
/-- FREE VALUE (log 13): the one octet of 10.7 that reports a clean-second streak above 255. -/
opaque Config.streakOctet : Nat → Byte
/-- FREE VALUE (log 13): the two octets of 10.4 that report a deadline timer above 65 535 whole seconds. -/
opaque Config.deadlineSeconds : Nat → BitVec 16
/-- FREE VALUE (log 14): the code octet in the refusal of a REQUEST whose body holds no code, by frame and tag. -/
opaque Config.absentCodeOctet : Nat → Byte → Byte

end Sys2Proof
end

