-- ==== Sys2Proof/Machine/Table.lean ====
section
/-! DEFINITION. Operations on fixed-length tables: read, write, map, search. All structural, so the kernel runs them. -/
namespace Sys2Proof

variable {n : Nat} {α β : Type}

/-- The entry at `i`. -/
def Table.get (t : Table n α) (i : Fin n) : α := t.cells[i.val]'(by rw [t.len]; exact i.isLt)

/-- The table with entry `i` replaced. -/
def Table.set (t : Table n α) (i : Fin n) (a : α) : Table n α :=
  ⟨t.cells.set i.val a, by rw [List.length_set]; exact t.len⟩

/-- The table with entry `i` changed by `f`. -/
def Table.modify (t : Table n α) (i : Fin n) (f : α → α) : Table n α := t.set i (f (t.get i))

/-- The table whose every entry is `a`. -/
def Table.replicate (n : Nat) (a : α) : Table n α := ⟨List.replicate n a, List.length_replicate⟩

/-- The table of the values of `f`. -/
def Table.ofFn (f : Fin n → α) : Table n α := ⟨List.ofFn f, List.length_ofFn⟩

/-- The table with every entry changed by `f`. -/
def Table.map (f : α → β) (t : Table n α) : Table n β := ⟨t.cells.map f, by rw [List.length_map]; exact t.len⟩

/-- The table with every entry changed by `f`, which also sees the index. -/
def Table.mapIdx (f : Fin n → α → β) (t : Table n α) : Table n β :=
  ⟨List.zipWith f (List.finRange n) t.cells, by simp [List.length_zipWith, t.len]⟩

/-- The indices, rising, whose entries satisfy `p`. -/
def Table.indices (p : α → Bool) (t : Table n α) : List (Fin n) :=
  (((List.finRange n).zip t.cells).filter fun x => p x.2).map Prod.fst

/-- The lowest index whose entry satisfies `p`. -/
def Table.first? (p : α → Bool) (t : Table n α) : Option (Fin n) := (t.indices p).head?

/-- How many entries satisfy `p`. -/
def Table.count (p : α → Bool) (t : Table n α) : Nat := t.cells.countP p

end Sys2Proof
end

