-- ==== Sys2Proof/Machine/Types.lean ====
section
/-! DEFINITION. The records of each block's state, with the manual's own names (00, Functional overview). -/
namespace Sys2Proof.Machine

/-- Device state (R22). -/
inductive DevState
  | starting
  | running
  | hold
  deriving DecidableEq, Repr

/-- The END of a device (R21). -/
inductive EndId
  | a
  | b
  deriving DecidableEq, Repr

/-- Power, sampled straps and device state (R16, R21, R22). -/
structure Device where
  powered : Bool
  straps : Straps
  devState : DevState
  deriving DecidableEq, Repr

/-- Site timing (R12, R13). -/
structure Timing where
  count : Frame
  refPort : TrunkId
  holdover : Bool
  qual : Nat
  deriving DecidableEq, Repr

/-- A timer that counts site frames (R78). `due`: it has reached its limit in the frame in course and the expiry waits
to be taken; `expired`: the expiry was taken. An expired soak timer stands (R95); an expired deadline timer counts on while
its order is ACTIVE (R144). -/
inductive Timer
  | stopped
  | counting (n : Nat)
  | due (n : Nat)
  | expired (n : Nat)
  deriving DecidableEq, Repr

/-- Proxy mode (R174). -/
inductive ProxyMode
  | wait
  | post
  deriving DecidableEq, Repr

/-- The parameters of 10.5 but the reference port, each in the unit of the table, and P and F as in force in the frame
in course (R75). -/
structure Params where
  degrade : Nat
  persistence : Nat
  freeze : Nat
  restore : Nat
  peerProgress : Nat
  quietWait : Nat
  validity : Nat
  soak : Nat
  window : Nat
  distinct : Nat
  slew : Nat
  alignTimeout : Nat
  repeatMs : Nat
  tries : Nat
  preset : Nat
  onMark : Nat
  offMark : Nat
  proxyMode : ProxyMode
  proxyTimeout : Nat
  persistenceNow : Nat
  freezeNow : Nat
  deriving DecidableEq, Repr

/-- Trunk function (R15). -/
inductive TrunkFunction
  | trunk
  | monitor
  | spanOnly
  deriving DecidableEq, Repr

/-- Insertion state (01, 1.7). -/
inductive Insertion
  | bypassed
  | acquiring
  | inserted
  deriving DecidableEq, Repr

/-- The five codes of a trunk (R73). -/
structure TrunkCodes where
  idleOut : Code
  idleIn : Code
  blocking : Code
  conditioning : Code
  vacant : Byte
  deriving DecidableEq, Repr

/-- One trunk (R15 to R20). `coming` is a function set in the frame in course, which takes effect from the next (R15);
`bypass` is the bypass output, true when asserted. -/
structure Trunk where
  function : TrunkFunction
  coming : Option TrunkFunction
  insertion : Insertion
  settle : Nat
  bypass : Bool
  codes : TrunkCodes
  deriving DecidableEq, Repr

/-- Frame alignment state of a port or of the span (R1, R26). -/
inductive AlignState
  | search
  | confirm
  | aligned
  deriving DecidableEq, Repr

/-- Multiframe alignment state (R2). `confirm` keeps the slot 16 octets received since the candidate; `aligned` keeps
the position of the last frame, the wrong patterns in succession and the slot 16 octets of the multiframe in course (R8). -/
inductive MfState
  | search
  | confirm (seen : List Byte)
  | aligned (pos wrong : Nat) (codes : List Byte)
  deriving DecidableEq, Repr

/-- One E1 frame of 32 octet slots. -/
abbrev E1Frame := Table 32 Byte
/-- The 512 channel octets of one span frame. -/
abbrev SpanOctets := Table 512 Byte

/-- A frame in a port elastic store, with its number in the received multiframe when there is one (R6). -/
structure StoredFrame where
  octets : E1Frame
  mf : Option Nat
  deriving DecidableEq, Repr

/-- The receive side of one port (R1 to R8). `bits` is the part of the stream still under examination; `carriesWord`
says that the next frame carries the alignment octet; `aisRun` that the block before held at most 2 zero bits;
`delivered` is the frame read from the store in the frame in course. -/
structure PortRx where
  los : Bool
  align : AlignState
  bits : List Bool
  carriesWord : Bool
  wrong : Nat
  mf : MfState
  ais : Bool
  aisRun : Bool
  available : Bool
  far : Bool
  farOnes : Nat
  farZeros : Nat
  store : List StoredFrame
  lastRead : E1Frame
  delivered : E1Frame
  slips : Word16
  deriving DecidableEq, Repr

/-- The receive side of the span (R26 to R40). -/
structure SpanRx where
  los : Bool
  align : AlignState
  bits : List Bool
  wrong : Nat
  rxNumber : Option Word16
  errored : Word16
  interval : Nat
  intervalEnd : Bool
  errCount : Nat
  alignedThroughout : Bool
  streak : Nat
  degrade : Bool
  peerState : Option DevState
  peerEnd : Option (Option EndId)
  peerHoldOff : Bool
  peerFarFault : Bool
  present : Bool
  runningRun : Nat
  otherRun : Nat
  conflict : Bool
  sameRun : Nat
  differRun : Nat
  usable : Bool
  store : List SpanOctets
  lastRead : SpanOctets
  delivered : SpanOctets
  slips : Word16
  deriving DecidableEq, Repr

/-- Move policy (R48). -/
inductive Policy
  | auto
  | atClear
  | force
  deriving DecidableEq, Repr

/-- The loaded fields of a circuit record (03, 3.1). -/
structure Loaded where
  slot : Option SlotId
  policy : Policy
  rollOnCommand : Bool
  pin : Bool
  mgmt : Bool
  deriving DecidableEq, Repr

/-- The loaded fields of the 480 records and the slot directory (R43, R46). -/
structure CircuitMap where
  loaded : Table 480 Loaded
  directory : Table 512 (Option CircuitId)
  deriving DecidableEq, Repr

/-- Direction of a move. -/
inductive Dir
  | toSpan
  | toCopper
  deriving DecidableEq, Repr

/-- The two paths of a circuit. -/
inductive Path
  | copper
  | span
  deriving DecidableEq, Repr

/-- Move states (R77). -/
inductive MoveState
  | home
  | blocking
  | swapping
  | bridging
  | bridged
  | aligned
  | rollPending
  | rolled
  | abandoning
  | moved
  deriving DecidableEq, Repr

/-- Fault codes in the order of 10.4. -/
inductive FaultCode
  | seized
  | peerTimeout
  | peerStall
  | alignTimeout
  | noMatch
  | rollWaitTimeout
  | manual
  | abandonedByPeer
  | spanLost
  | spanFallback
  | swapUnresolved
  | copperLost
  | unmapped
  | busyCall
  | crossed
  | direction
  | sequence
  deriving DecidableEq, Repr

/-- Kinds of a last result (R51). -/
inductive ResultKind
  | cold
  | force
  | hitless
  | idleRoll
  | rescue
  deriving DecidableEq, Repr

/-- A last result (R51). -/
structure MoveResult where
  kind : ResultKind
  lag : Option Int
  replay : Nat
  deriving DecidableEq, Repr

/-- A debounce record (R59). -/
structure Debounce where
  code : Code
  cand : Option Code
  count : Nat
  deriving DecidableEq, Repr

/-- A running freeze window (R67). -/
structure Freeze where
  code : Code
  endFrame : Frame
  deriving DecidableEq, Repr

/-- The kept fields of a circuit record with the signalling unit's records (R50, R59, R67, R69). `heard` is the code of
case 3 or 4 of R65 in the frame last composed; `busy` is the call state. -/
structure Circuit where
  state : MoveState
  dir : Option Dir
  sel : Path
  cuTx : Bool
  spTx : Bool
  blocked : Bool
  cuDepth : Byte
  spDepth : Byte
  moveSlot : Option MoveId
  order : Option Byte
  lastFault : Option FaultCode
  lastResult : Option MoveResult
  busy : Bool
  conditioned : Bool
  restore : Timer
  fwd : Debounce
  cuBack : Debounce
  spBack : Debounce
  spLast : Option Word16
  freeze : Option Freeze
  heard : Code
  deriving DecidableEq, Repr

/-- Request kinds (R149). -/
inductive ReqKind
  | block
  | swap
  | bridge
  | rolled
  | release
  | abandon
  deriving DecidableEq, Repr

/-- Reasons of a REFUSE (R149). -/
inductive RefuseReason
  | busyCall
  | crossed
  | direction
  | sequence
  | unmapped
  deriving DecidableEq, Repr

/-- Notice kinds: a request, the answer to a request (BLOCKED answers BLOCK, and so on), or REFUSE with its reason and
the refused kind in its detail (R149). EMPTY is the absence of a notice. -/
inductive NoticeKind
  | req (k : ReqKind)
  | ans (k : ReqKind)
  | refuse (reason : RefuseReason) (detail : ReqKind)
  deriving DecidableEq, Repr

/-- A notice (R149). -/
structure Notice where
  kind : NoticeKind
  dir : Dir
  force : Bool
  slot : SlotId
  tag : Word16
  deriving DecidableEq, Repr

/-- A queued notice and the move slot that owns it, if it is a pending request's sending (R151). -/
structure OutNotice where
  notice : Notice
  owner : Option MoveId
  deriving DecidableEq, Repr

/-- Role of an end in a move (R77). -/
inductive Role
  | initiator
  | responder
  deriving DecidableEq, Repr

/-- Kind of a move (R81). -/
inductive MoveKind
  | cold
  | force
  | hitless
  deriving DecidableEq, Repr

/-- Kind of a roll (R77). -/
inductive RollKind
  | hitless
  | idleRoll
  | rescue
  deriving DecidableEq, Repr

/-- A pending request (R77, R153). -/
structure Request where
  kind : ReqKind
  force : Bool
  tries : Nat
  timer : Timer
  deriving DecidableEq, Repr

/-- A roll due (R77). -/
structure RollDue where
  frame : Frame
  kind : RollKind
  deriving DecidableEq, Repr

/-- A confirmed measurement (R124). -/
structure AlignResult where
  lag : Int
  depth : Byte
  replay : Nat
  deriving DecidableEq, Repr

/-- A held move slot (R77). `made` keeps what the roll leaves for the last result (R93); `tested` says that the quiet
test of the frame in course is behind the circuit (R126). -/
structure Move where
  circuit : CircuitId
  tag : Word16
  peerTag : Option Word16
  role : Role
  kind : MoveKind
  dir : Dir
  request : Option Request
  peerRolled : Bool
  ownRolledNoted : Bool
  rollDue : Option RollDue
  progress : Timer
  quiet : Timer
  validity : Timer
  soak : Timer
  result : Option AlignResult
  order : Option Byte
  made : Option MoveResult
  tested : Bool
  deriving DecidableEq, Repr

/-- The move table (R77) and the tag counter (R78). -/
structure MoveTable where
  slots : Table 64 (Option Move)
  tagCounter : Word16
  deriving DecidableEq, Repr

/-- What the stores delivered in one site frame (R111). -/
structure HistRow where
  copper : Table 16 E1Frame
  span : SpanOctets
  deriving DecidableEq, Repr

/-- An entry of the alignment queue; `fresh` while the frame in which it joined lasts (R115). -/
structure QueueEntry where
  circuit : CircuitId
  fresh : Bool
  deriving DecidableEq, Repr

/-- A measurement record (R116). The old and new path follow from `dir`. -/
structure Measure where
  circuit : CircuitId
  dir : Dir
  oldDepth : Byte
  window : Nat
  distinct : Nat
  e0 : Frame
  next : Nat
  cand : Option Int
  noneStreak : Nat
  timeout : Timer
  deriving DecidableEq, Repr

/-- A correlator; `justFreed` while the frame in which it was freed lasts (R115). -/
structure Correlator where
  rec? : Option Measure
  justFreed : Bool
  deriving DecidableEq, Repr

/-- The alignment unit (R111 to R116). The history store's row of frame f has index f modulo 512. `copperDeleted` and
`spanDeleted` keep the slips of a full store that belong to the next frame, which reads what was written (log 5). -/
structure AlignUnit where
  history : Table 512 HistRow
  copperMark : Table 16 Frame
  spanMark : Frame
  copperDeleted : Table 16 Bool
  spanDeleted : Bool
  queue : List QueueEntry
  corrs : Table 8 Correlator
  deriving DecidableEq, Repr

/-- Order states (R133). -/
inductive OrderState
  | pending
  | active
  | done
  | cancelled
  | expired
  deriving DecidableEq, Repr

/-- Why admission has stopped (R133). -/
inductive Closing
  | cancel
  | deadline
  deriving DecidableEq, Repr

/-- State of a circuit list entry (R135). -/
inductive EntryState
  | unstarted
  | inFlight
  | moved
  | failed
  deriving DecidableEq, Repr

/-- One entry of a circuit list. -/
structure OrderEntry where
  circuit : CircuitId
  state : EntryState
  deriving DecidableEq, Repr

/-- A move order (R133). The counts are counts of entries. -/
structure Order where
  number : Byte
  trunk : TrunkId
  first : Nat
  last : Nat
  dir : Dir
  deadline : Option Word16
  state : OrderState
  closing : Option Closing
  timer : Timer
  entries : List OrderEntry
  deriving DecidableEq, Repr

/-- The part of the frame's admission pass that comes next (R137). -/
inductive PassStage
  | promotion
  | resolution
  | grants
  | over
  deriving DecidableEq, Repr

/-- The order unit (R133, R134, R141). -/
structure OrderUnit where
  list : List Order
  counter : Byte
  turn : Option Byte
  stage : PassStage
  deriving DecidableEq, Repr

/-- The coordination link (08). `txFirst` and `txSecond` are the notice positions of the frame in course (R152). -/
structure Link where
  outQ : List OutNotice
  inQ : List Notice
  txFirst : Option Notice
  txSecond : Option Notice
  taken : Bool
  holdOff : Bool
  answersDropped : Word16
  inboundDrops : Word16
  stale : Word16
  deriving DecidableEq, Repr

/-- Event causes in priority order (R179). -/
inductive Cause
  | spanDown
  | peerLost
  | endConflict
  | fallback
  | portAlarm
  | moveFailed
  | slip
  | noticeLoss
  | orderEnd
  | proxyDone
  | spanUp
  | inserted
  deriving DecidableEq, Repr

/-- A management cell without its start word and CRC (10.3). The body holds the octets in use. -/
structure Cell where
  kind : Byte
  tag : Byte
  target : Byte
  status : Byte
  body : List Byte
  deriving DecidableEq, Repr

/-- A queued cell; `restart` marks the DONE response of RESTART (R182). -/
structure OutCell where
  cell : Cell
  restart : Bool
  deriving DecidableEq, Repr

/-- Delineation of the slot entry (R169): the octets under examination, oldest first. -/
structure SlotRx where
  locked : Bool
  bad : Nat
  buf : List Byte
  deriving DecidableEq, Repr

/-- The outgoing slot cell: its 64 octets and how many are sent (R168). -/
structure SlotTx where
  octets : List Byte
  sent : Nat
  restart : Bool
  deriving DecidableEq, Repr

/-- The outgoing span cell (R170). -/
structure SpanTx where
  octets : List Byte
  restart : Bool
  deriving DecidableEq, Repr

/-- The span cell being assembled (R170): the numbers 8q to 8q + 7, the next piece expected, the octets so far, and
whether a piece was spoiled or is lacking. -/
structure SpanAsm where
  q : Nat
  next : Nat
  octets : List Byte
  bad : Bool
  deriving DecidableEq, Repr

/-- A complete span cell that waits to be judged (R170). -/
structure SpanReady where
  octets : List Byte
  bad : Bool
  deriving DecidableEq, Repr

/-- The proxy record (R175); `code` is the request's code, which a refused result repeats (10.7). -/
structure Proxy where
  stationTag : Byte
  proxyTag : Byte
  mode : ProxyMode
  code : Byte
  timer : Timer
  deriving DecidableEq, Repr

/-- A RESTART in progress (R182): its response waits or is being sent; the response was dropped in the frame in course;
the device reset follows in the frame in course. -/
inductive RestartPhase
  | idle
  | waiting
  | dropped
  | due
  deriving DecidableEq, Repr

/-- The management agent (09). Causes and enables hold priority 1 in bit 11 and priority 12 in bit 0. -/
structure Mgmt where
  slotRx : SlotRx
  slotTx : Option SlotTx
  slotQ : List OutCell
  slotDiscards : Word16
  spanTx : SpanTx
  spanQ : List OutCell
  spanSync : Bool
  spanAsm : Option SpanAsm
  spanReady : List SpanReady
  spanDiscards : Word16
  proxy : Option Proxy
  proxyTagCounter : Byte
  eventCounter : Byte
  causes : BitVec 12
  enables : BitVec 12
  attention : Bool
  restart : RestartPhase
  deriving DecidableEq, Repr

/-- The frames composed in one site frame (R9, R24). -/
structure TxFrames where
  sw : Table 16 E1Frame
  line : Table 16 E1Frame
  span : List Byte
  deriving DecidableEq, Repr

end Sys2Proof.Machine
end

