-- ==== Sys2Proof/Machine/Operands.lean ====
section
/-! DEFINITION. Operand forms: bits and octets, identities, straps, and every coded value of chapter 10. -/
namespace Sys2Proof.Machine

/-! Bits and octets -/

/-- The bits of an octet, most significant first (10, first paragraph). -/
def octetBits (b : Byte) : List Bool := (List.range 8).map b.getMsbD

/-- The octet of eight bits, most significant first. -/
def bitsOctet (l : List Bool) : Byte := BitVec.ofNat 8 (l.foldl (fun a b => 2 * a + b.toNat) 0)

/-- The bits of a list of octets, in the order sent. -/
def octetsBits (l : List Byte) : List Bool := l.flatMap octetBits

/-- Octets `k` to `k + n - 1` of a bit string, counted from its first bit. -/
def bitsOctets (n : Nat) (l : List Bool) : List Byte :=
  match n with
  | 0 => []
  | n + 1 => bitsOctet (l.take 8) :: bitsOctets n (l.drop 8)

/-- Octet `i` of a list, 0 past its end. -/
def octetAt (l : List Byte) (i : Nat) : Byte := l.getD i 0

/-- The more and the less significant octet of a 16-bit field. -/
def be16 (w : Word16) : List Byte := [w.extractLsb' 8 8, w.extractLsb' 0 8]

/-- The 16-bit field of two octets, most significant first. -/
def word16 (hi lo : Byte) : Word16 := hi ++ lo

/-- The four octets of a 32-bit field, most significant first. -/
def be32 (w : BitVec 32) : List Byte :=
  [w.extractLsb' 24 8, w.extractLsb' 16 8, w.extractLsb' 8 8, w.extractLsb' 0 8]

/-- A number as a 16-bit field. -/
def nat16 (n : Nat) : List Byte := be16 (BitVec.ofNat 16 n)

/-- A number as one octet. -/
def nat8 (n : Nat) : Byte := BitVec.ofNat 8 n

/-- An octet with two ABCD codes, the first in bits 7-4. -/
def codePair (hi lo : Code) : Byte := hi ++ lo

/-- The code in bits 7-4 of an octet. -/
def upperCode (b : Byte) : Code := b.extractLsb' 4 4

/-- The code in bits 3-0 of an octet. -/
def lowerCode (b : Byte) : Code := b.extractLsb' 0 4

/-- An octet with the given flags from bit 7 down. -/
def flags (l : List Bool) : Byte := bitsOctet ((l ++ List.replicate 8 false).take 8)

/-- A 16-bit event counter increased by one, saturating at 65 535 (00, Counters). -/
def bump (w : Word16) : Word16 := if w = 0xFFFF then w else w + 1

/-! CRC-16 (R29, R171) -/

/-- One bit into the check register; the generator is x^16 + x^12 + x^5 + 1. -/
def crcBit (r : Word16) (b : Bool) : Word16 :=
  if (r.msb != b) then (r <<< 1) ^^^ 0x1021 else r <<< 1

/-- One octet into the check register, most significant bit first. -/
def crcOctet (r : Word16) (o : Byte) : Word16 := (octetBits o).foldl crcBit r

/-- The CRC of a list of octets: register preset to FFFF, result not inverted. -/
def crc16 (l : List Byte) : Word16 := l.foldl crcOctet 0xFFFF

/-! Identities -/

/-- The trunk of a circuit. -/
def trunkOf (c : CircuitId) : TrunkId := ⟨c.val / 30, by omega⟩

/-- The channel of a circuit, 1 to 15 or 17 to 31 (R43). -/
def channelOf (c : CircuitId) : Nat := if c.val % 30 < 15 then c.val % 30 + 1 else c.val % 30 + 2

/-- The circuit of channel position `p` of trunk `k`; positions 0 and 16 carry none. -/
def circuitAt (k : TrunkId) (p : Nat) : Option CircuitId :=
  if h : 1 ≤ p ∧ p ≤ 15 then some ⟨30 * k.val + (p - 1), by omega⟩
  else if h : 17 ≤ p ∧ p ≤ 31 then some ⟨30 * k.val + (p - 2), by omega⟩
  else none

/-- The 30 circuits of a trunk in identity order. -/
def trunkCircuits (k : TrunkId) : List CircuitId := (List.range 32).filterMap (circuitAt k)

/-- A trunk number from its octet. -/
def trunkArg (b : Byte) : Option TrunkId := if h : b.toNat < 16 then some ⟨b.toNat, h⟩ else none

/-- A circuit from the octets of its trunk and channel. -/
def circuitArg (trunk channel : Byte) : Option CircuitId :=
  (trunkArg trunk).bind fun k => circuitAt k channel.toNat

/-- A span slot from a 16-bit field. -/
def slotArg (w : Word16) : Option SlotId := if h : w.toNat < 512 then some ⟨w.toNat, h⟩ else none

/-- A yes or no value (10.6). -/
def boolArg (b : Byte) : Option Bool := if b = 0 then some false else if b = 1 then some true else none

/-- The octet of a yes or no value. -/
def boolOctet (b : Bool) : Byte := if b then 1 else 0

/-! Straps (R20, R21) -/

/-- The END the SITE straps select; none when they are inhibited. -/
def strapEnd (st : Straps) : Option EndId :=
  if st.site = 0b01 then some .a else if st.site = 0b10 then some .b else none

/-- The management trunk, when the MGMT straps select a switch port. -/
def strapMgmtTrunk (st : Straps) : Option TrunkId :=
  if h : st.mgmt.toNat < 16 then some ⟨st.mgmt.toNat, h⟩ else none

/-- The management channel's number, 31 for MSLOT 0 and 15 for MSLOT 1. -/
def strapMgmtChannel (st : Straps) : Nat := if st.mslot = 0 then 31 else 15

/-- The management channel (R20, R44). -/
def strapMgmtCircuit (st : Straps) : Option CircuitId :=
  (strapMgmtTrunk st).bind fun k => circuitAt k (strapMgmtChannel st)

/-- The reference port after device reset. -/
def strapRefPort (st : Straps) : TrunkId := ⟨st.ref.toNat, st.ref.isLt⟩

/-! Directions and paths -/

/-- The path a move leaves. -/
def Dir.oldPath : Dir → Path
  | .toSpan => .copper
  | .toCopper => .span

/-- The path a move goes to. -/
def Dir.newPath : Dir → Path
  | .toSpan => .span
  | .toCopper => .copper

/-- The rest state at which a move starts. -/
def Dir.startRest : Dir → MoveState
  | .toSpan => .home
  | .toCopper => .moved

/-- The rest state at which a move ends. -/
def Dir.targetRest : Dir → MoveState
  | .toSpan => .moved
  | .toCopper => .home

/-- HOME and MOVED are the rest states. -/
def MoveState.atRest : MoveState → Bool
  | .home | .moved => true
  | _ => false

/-- The states of a bridged circuit before its roll. -/
def MoveState.awaitsRoll : MoveState → Bool
  | .bridged | .aligned | .rollPending => true
  | _ => false

/-- The in-flight states of a hitless move (R94). -/
def MoveState.hitless : MoveState → Bool
  | .bridging | .bridged | .aligned | .rollPending | .rolled | .abandoning => true
  | _ => false

/-! Timers -/

/-- The frames a timer has counted. -/
def Timer.count : Timer → Nat
  | .stopped => 0
  | .counting n | .due n | .expired n => n

/-- A timer started from 0; a limit of 0 is reached in the frame of the start (R95). -/
def Timer.start (limit : Nat) : Timer := if limit = 0 then .due 0 else .counting 0

/-- A counting timer counts one frame and is compared with its limit as it stands (R78). -/
def Timer.tick (limit : Nat) : Timer → Timer
  | .counting n => if limit ≤ n + 1 then .due (n + 1) else .counting (n + 1)
  | t => t

/-- The deadline timer of an order counts on after its expiry (R144). -/
def Timer.tickOn (limit : Nat) : Timer → Timer
  | .expired n => .expired (n + 1)
  | t => t.tick limit

/-- The expiry of the timer waits to be taken. -/
def Timer.isDue : Timer → Bool
  | .due _ => true
  | _ => false

/-- The expiry of the timer has been taken (R95, R144). -/
def Timer.isExpired : Timer → Bool
  | .expired _ => true
  | _ => false

/-! Coded values of chapter 10 -/

/-- Device state in the peer status (10.1) and in STATUS (10.7). -/
def DevState.code : DevState → BitVec 2
  | .starting => 0
  | .running => 1
  | .hold => 2

/-- END in the peer status and in STATUS. -/
def endCode : Option EndId → BitVec 2
  | none => 0
  | some .a => 1
  | some .b => 2

/-- Notice kinds of the requests (10.2). -/
def ReqKind.code : ReqKind → Byte
  | .block => 0x01
  | .swap => 0x02
  | .bridge => 0x03
  | .rolled => 0x04
  | .release => 0x05
  | .abandon => 0x06

/-- The request kind of a code. -/
def reqKindOf (b : Byte) : Option ReqKind :=
  match b.toNat with
  | 0x01 => some .block
  | 0x02 => some .swap
  | 0x03 => some .bridge
  | 0x04 => some .rolled
  | 0x05 => some .release
  | 0x06 => some .abandon
  | _ => none

/-- Reasons of a REFUSE (10.2). -/
def RefuseReason.code : RefuseReason → Byte
  | .busyCall => 0x01
  | .crossed => 0x02
  | .direction => 0x03
  | .sequence => 0x04
  | .unmapped => 0x05

/-- The reason of a code. -/
def refuseReasonOf (b : Byte) : Option RefuseReason :=
  match b.toNat with
  | 0x01 => some .busyCall
  | 0x02 => some .crossed
  | 0x03 => some .direction
  | 0x04 => some .sequence
  | 0x05 => some .unmapped
  | _ => none

/-- The fault a refusal's reason writes (R51). -/
def RefuseReason.fault : RefuseReason → FaultCode
  | .busyCall => .busyCall
  | .crossed => .crossed
  | .direction => .direction
  | .sequence => .sequence
  | .unmapped => .unmapped

/-- The octets of a notice position (10.2). -/
def encodeNotice : Option Notice → List Byte
  | none => List.replicate 8 0
  | some n =>
    let fl : Byte := flags [n.dir = .toCopper, n.force]
    let head (k : Byte) : List Byte := k :: fl :: (nat16 n.slot.val ++ be16 n.tag)
    match n.kind with
    | .req k => head k.code ++ [0, 0]
    | .ans k => head (k.code + 0x10) ++ [0, 0]
    | .refuse r d => head 0x1F ++ [r.code, d.code]

/-- The notice of a received position; none for EMPTY and for a position treated as EMPTY (R183). The force bit counts in a
SWAP alone: that it is dropped in a REFUSE too, of which no rule speaks, is the model's choice (log 43). -/
def decodeNotice (l : List Byte) : Option Notice :=
  let kind : Option NoticeKind :=
    if octetAt l 0 = 0x1F then
      (refuseReasonOf (octetAt l 6)).bind fun r => (reqKindOf (octetAt l 7)).map fun d => .refuse r d
    else
      match reqKindOf (octetAt l 0) with
      | some k => some (.req k)
      | none => (reqKindOf (octetAt l 0 - 0x10)).map .ans
  kind.bind fun k => (slotArg (word16 (octetAt l 2) (octetAt l 3))).map fun s =>
    { kind := k
      dir := if (octetAt l 1).msb then .toCopper else .toSpan
      force := (k = .req .swap) && (octetAt l 1).getLsbD 6
      slot := s
      tag := word16 (octetAt l 4) (octetAt l 5) }

/-- Move states (10.4). -/
def MoveState.code : MoveState → Byte
  | .home => 0
  | .blocking => 1
  | .swapping => 2
  | .bridging => 3
  | .bridged => 4
  | .aligned => 5
  | .rollPending => 6
  | .rolled => 7
  | .abandoning => 8
  | .moved => 9

/-- Fault codes (10.4). -/
def FaultCode.code : FaultCode → Byte
  | .seized => 0x01
  | .peerTimeout => 0x02
  | .peerStall => 0x03
  | .alignTimeout => 0x04
  | .noMatch => 0x05
  | .rollWaitTimeout => 0x06
  | .manual => 0x07
  | .abandonedByPeer => 0x08
  | .spanLost => 0x09
  | .spanFallback => 0x0A
  | .swapUnresolved => 0x0B
  | .copperLost => 0x0C
  | .unmapped => 0x0D
  | .busyCall => 0x0E
  | .crossed => 0x0F
  | .direction => 0x10
  | .sequence => 0x11

/-- Last result kinds (10.4). -/
def ResultKind.code : ResultKind → Byte
  | .cold => 1
  | .force => 2
  | .hitless => 3
  | .idleRoll => 4
  | .rescue => 5

/-- The last result kind of a roll (R101). -/
def RollKind.resultKind : RollKind → ResultKind
  | .hitless => .hitless
  | .idleRoll => .idleRoll
  | .rescue => .rescue

/-- Policies (10.6). -/
def Policy.code : Policy → BitVec 2
  | .auto => 0
  | .atClear => 1
  | .force => 2

/-- A policy from its octet. -/
def policyArg (b : Byte) : Option Policy :=
  match b.toNat with
  | 0 => some .auto
  | 1 => some .atClear
  | 2 => some .force
  | _ => none

/-- A direction from its octet (10.6). -/
def dirArg (b : Byte) : Option Dir :=
  match b.toNat with
  | 0 => some .toSpan
  | 1 => some .toCopper
  | _ => none

/-- Trunk functions (10.6). -/
def TrunkFunction.code : TrunkFunction → Byte
  | .trunk => 0
  | .monitor => 1
  | .spanOnly => 2

/-- A trunk function from its octet. -/
def functionArg (b : Byte) : Option TrunkFunction :=
  match b.toNat with
  | 0 => some .trunk
  | 1 => some .monitor
  | 2 => some .spanOnly
  | _ => none

/-- Insertion states (10.7). -/
def Insertion.code : Insertion → Byte
  | .bypassed => 0
  | .acquiring => 1
  | .inserted => 2

/-- Frame alignment states (10.7). -/
def AlignState.code : AlignState → Byte
  | .search => 0
  | .confirm => 1
  | .aligned => 2

/-- Multiframe alignment states (10.7). -/
def MfState.code : MfState → Byte
  | .search => 0
  | .confirm _ => 1
  | .aligned _ _ _ => 2

/-- Order states (10.4). -/
def OrderState.code : OrderState → BitVec 3
  | .pending => 0
  | .active => 1
  | .done => 2
  | .cancelled => 3
  | .expired => 4

/-- Closings (10.4). -/
def closingCode : Option Closing → BitVec 2
  | none => 0
  | some .cancel => 1
  | some .deadline => 2

/-- Circuit list entries (10.4). -/
def EntryState.code : EntryState → BitVec 2
  | .unstarted => 0
  | .inFlight => 1
  | .moved => 2
  | .failed => 3

/-- Reasons of a REFUSED status in the order of 10.3. -/
inductive Reason
  | badRequest
  | badTarget
  | outOfRange
  | wrongState
  | notAtRest
  | slotInUse
  | mgmtChannel
  | noSlot
  | busyCall
  | listFull
  | held
  | busy
  | peerAbsent
  | peerTimeout
  | trunkDown
  | spanDown
  | unmapped
  deriving DecidableEq, Repr

/-- The number n of a reason (10.3). -/
def Reason.number : Reason → Byte
  | .badRequest => 1
  | .badTarget => 2
  | .outOfRange => 3
  | .wrongState => 4
  | .notAtRest => 5
  | .slotInUse => 6
  | .mgmtChannel => 7
  | .noSlot => 8
  | .busyCall => 9
  | .listFull => 10
  | .held => 11
  | .busy => 12
  | .peerAbsent => 13
  | .peerTimeout => 14
  | .trunkDown => 15
  | .spanDown => 16
  | .unmapped => 17

/-- The status octet of a refusal: 40 + n (10.3). -/
def Reason.status (r : Reason) : Byte := 0x40 + r.number

/-- Status octets (10.3). -/
def statusDone : Byte := 0x01
def statusDoneClamped : Byte := 0x02
def statusAccepted : Byte := 0x03

/-- Cell kinds (10.3). -/
def kindIdle : Byte := 0x00
def kindRequest : Byte := 0x01
def kindResponse : Byte := 0x02
def kindEvent : Byte := 0x03
def kindProxyResult : Byte := 0x04

/-- Targets (10.3). -/
def targetLocal : Byte := 0x00
def targetPeer : Byte := 0x01

/-- The 64 octets of a cell (10.3). -/
def encodeCell (c : Cell) : List Byte :=
  let middle := [c.kind, c.tag, c.target, c.status, nat8 c.body.length] ++ (c.body ++ List.replicate bodySize 0).take bodySize
  [0xE1, 0x4B] ++ middle ++ be16 (crc16 middle)

/-- The IDLE cell (R168). -/
def idleCell : Cell := { kind := kindIdle, tag := 0, target := 0, status := 0, body := [] }

/-- A received cell of 64 octets is good: its start word and its CRC are right (R169, R170). -/
def cellGood (l : List Byte) : Bool :=
  octetAt l 0 = 0xE1 && octetAt l 1 = 0x4B && word16 (octetAt l 62) (octetAt l 63) = crc16 ((l.drop 2).take 60)

/-! Parameters (10.5) -/

/-- The parameters of 10.5 by identifier. -/
inductive ParamId
  | refPort
  | degrade
  | persistence
  | freeze
  | restore
  | peerProgress
  | quietWait
  | validity
  | soak
  | window
  | distinct
  | slew
  | alignTimeout
  | repeatMs
  | tries
  | preset
  | onMark
  | offMark
  | proxyMode
  | proxyTimeout
  deriving DecidableEq, Repr

/-- The parameters in identifier order, from 01. -/
def ParamId.all : List ParamId :=
  [.refPort, .degrade, .persistence, .freeze, .restore, .peerProgress, .quietWait, .validity, .soak, .window, .distinct,
    .slew, .alignTimeout, .repeatMs, .tries, .preset, .onMark, .offMark, .proxyMode, .proxyTimeout]

/-- The parameter of an identifier. -/
def paramOf (b : Byte) : Option ParamId := if b = 0 then none else ParamId.all[b.toNat - 1]?

/-- `v` held to the range `lo` to `hi`. -/
def clampTo (lo hi v : Nat) : Nat := if v < lo then lo else if hi < v then hi else v

/-- The window length set for a value (R131): 24 and 48 go to the larger. -/
def windowStep (v : Nat) : Nat := if v < 24 then 16 else if v < 48 then 32 else 64

/-- The repeat interval set for a value (R154): the nearest step of 10, a value ending in 5 to the larger. -/
def repeatStep (v : Nat) : Nat := ((clampTo 10 250 v) + 5) / 10 * 10

/-- The value a parameter takes for a value given; identity and list parameters are checked before (R174). The off-mark
is held below the on-mark by `Params.write`. -/
def ParamId.settle : ParamId → Nat → Nat
  | .refPort, v => v
  | .degrade, v => clampTo 1 1000 v
  | .persistence, v => clampTo 2 8 v
  | .freeze, v => clampTo 2 16 v
  | .restore, v => clampTo 1 60 v
  | .peerProgress, v => clampTo 5 300 v
  | .quietWait, v => clampTo 1 120 v
  | .validity, v => clampTo 1 10 v
  | .soak, v => clampTo 0 3600 v
  | .window, v => windowStep v
  | .distinct, v => clampTo 2 8 v
  | .slew, v => clampTo 0 32 v
  | .alignTimeout, v => clampTo 1 60 v
  | .repeatMs, v => repeatStep v
  | .tries, v => clampTo 1 15 v
  | .preset, v => clampTo 0 3 v
  | .onMark, v => clampTo 1 64 v
  | .offMark, v => v
  | .proxyMode, v => v
  | .proxyTimeout, v => clampTo 1 10 v

/-- The largest value an identity or list parameter takes; a larger one is refused (R174). -/
def ParamId.limit? : ParamId → Option Nat
  | .refPort => some 15
  | .proxyMode => some 1
  | _ => none

/-- The value of a parameter held in `Params`. The reference port stands in site timing. -/
def Params.read (p : Params) (refPort : TrunkId) : ParamId → Nat
  | .refPort => refPort.val
  | .degrade => p.degrade
  | .persistence => p.persistence
  | .freeze => p.freeze
  | .restore => p.restore
  | .peerProgress => p.peerProgress
  | .quietWait => p.quietWait
  | .validity => p.validity
  | .soak => p.soak
  | .window => p.window
  | .distinct => p.distinct
  | .slew => p.slew
  | .alignTimeout => p.alignTimeout
  | .repeatMs => p.repeatMs
  | .tries => p.tries
  | .preset => p.preset
  | .onMark => p.onMark
  | .offMark => p.offMark
  | .proxyMode => match p.proxyMode with
    | .wait => 0
    | .post => 1
  | .proxyTimeout => p.proxyTimeout

/-- `Params` with one parameter written. -/
def Params.write (p : Params) (i : ParamId) (v : Nat) : Params :=
  let v := i.settle v
  match i with
  | .refPort => p
  | .degrade => { p with degrade := v }
  | .persistence => { p with persistence := v }
  | .freeze => { p with freeze := v }
  | .restore => { p with restore := v }
  | .peerProgress => { p with peerProgress := v }
  | .quietWait => { p with quietWait := v }
  | .validity => { p with validity := v }
  | .soak => { p with soak := v }
  | .window => { p with window := v }
  | .distinct => { p with distinct := v }
  | .slew => { p with slew := v }
  | .alignTimeout => { p with alignTimeout := v }
  | .repeatMs => { p with repeatMs := v }
  | .tries => { p with tries := v }
  | .preset => { p with preset := v }
  | .onMark => { p with onMark := v }
  | .offMark => { p with offMark := v }
  | .proxyMode => { p with proxyMode := if v = 0 then .wait else .post }
  | .proxyTimeout => { p with proxyTimeout := v }

/-- The marks of the hold-off preset in force (R157). -/
def Params.marks (p : Params) : Nat × Nat :=
  match p.preset with
  | 0 => (48, 16)
  | 1 => (56, 40)
  | 2 => (32, 8)
  | _ => (p.onMark, p.offMark)

/-! Causes (R179, 10.3) -/

/-- Priority of a cause, 1 the highest. -/
def Cause.priority : Cause → Nat
  | .spanDown => 1
  | .peerLost => 2
  | .endConflict => 3
  | .fallback => 4
  | .portAlarm => 5
  | .moveFailed => 6
  | .slip => 7
  | .noticeLoss => 8
  | .orderEnd => 9
  | .proxyDone => 10
  | .spanUp => 11
  | .inserted => 12

/-- The bit of a cause in the twelve-bit sets. -/
def Cause.bit (c : Cause) : BitVec 12 := 1#12 <<< (12 - c.priority)

/-- A cause set as in an EVENT cell: priority 1 in bit 7 of the first octet, the low four bits zero. -/
def causeOctets (m : BitVec 12) : List Byte := be16 (m ++ (0 : BitVec 4))

/-- The cause set of two octets; the low four bits are not examined. -/
def causeMask (w : Word16) : BitVec 12 := w.extractLsb' 4 12

/-- The priority of the highest cause of a set, 0 for the empty set. -/
def topCause (m : BitVec 12) : Nat := ((List.range 12).find? fun i => m.getMsbD i).elim 0 (· + 1)

end Sys2Proof.Machine
end

