-- ==== Sys2Proof/Machine/Reset.lean ====
section
/-! DEFINITION. The value of each block's state at the end of a device reset, block by block (the "After device reset"
tables). Values the manual does not give are named in logs 8 and 9. -/
namespace Sys2Proof.Machine

/-- R21, R22. -/
def Device.reset (st : Straps) : Device :=
  { powered := true, straps := st, devState := if (strapEnd st).isSome then .starting else .hold }

/-- R12, R13. -/
def Timing.reset (st : Straps) : Timing := { count := 0, refPort := strapRefPort st, holdover := true, qual := 0 }

/-- 10.5: every parameter takes its default. -/
def Params.reset : Params :=
  { degrade := 80, persistence := 3, freeze := 4, restore := 10, peerProgress := 90, quietWait := 30, validity := 2,
    soak := 60, window := 32, distinct := 4, slew := 8, alignTimeout := 20, repeatMs := 50, tries := 6, preset := 0,
    onMark := 48, offMark := 16, proxyMode := .wait, proxyTimeout := 3, persistenceNow := 3, freezeNow := 4 }

/-- R73. -/
def TrunkCodes.reset : TrunkCodes :=
  { idleOut := 0b1001, idleIn := 0b1001, blocking := 0b1101, conditioning := 0b1111, vacant := 0xD5 }

/-- R15, R16, R20. -/
def Trunk.reset (st : Straps) (k : TrunkId) : Trunk :=
  { function := .trunk, coming := none, insertion := if strapMgmtTrunk st = some k then .acquiring else .bypassed, settle := 0,
    bypass := true, codes := TrunkCodes.reset }

/-- The frame of 32 octets FF that a port delivers while it is not frame-aligned (R6). -/
def ffFrame : E1Frame := Table.replicate 32 0xFF

/-- The 512 octets FF that the span delivers while it is not ALIGNED (R34). -/
def ffSpan : SpanOctets := Table.replicate 512 0xFF

/-- R1 to R7. -/
def PortRx.reset : PortRx :=
  { los := false, align := .search, bits := [], carriesWord := true, wrong := 0, mf := .search, ais := false,
    aisRun := false, available := false, far := false, farOnes := 0, farZeros := 0, store := [], lastRead := ffFrame,
    delivered := ffFrame, slips := 0 }

/-- R26 to R40. -/
def SpanRx.reset : SpanRx :=
  { los := false, align := .search, bits := [], wrong := 0, rxNumber := none, errored := 0, interval := 0,
    intervalEnd := false, errCount := 0, alignedThroughout := true, streak := 0, degrade := false, peerState := none,
    peerEnd := none, peerHoldOff := false, peerFarFault := false, present := false, runningRun := 0, otherRun := 0,
    conflict := false, sameRun := 0, differRun := 0, usable := false, store := [], lastRead := ffSpan,
    delivered := ffSpan, slips := 0 }

/-- R58; the flag as R44 states. -/
def Loaded.reset (st : Straps) (c : CircuitId) : Loaded :=
  { slot := none, policy := .auto, rollOnCommand := false, pin := false, mgmt := strapMgmtCircuit st = some c }

/-- R46, R58. -/
def CircuitMap.reset (st : Straps) : CircuitMap :=
  { loaded := Table.ofFn (Loaded.reset st), directory := Table.replicate 512 none }

/-- R59: debounced code 1001, candidate absent, count 0. -/
def Debounce.reset : Debounce := { code := 0b1001, cand := none, count := 0 }

/-- R58, R59, R63, R67, R69; the flagged record as R44 states. -/
def Circuit.reset (mgmt : Bool) : Circuit :=
  { state := .home, dir := none, sel := .copper, cuTx := !mgmt, spTx := false, blocked := false, cuDepth := 0,
    spDepth := 0, moveSlot := none, order := none, lastFault := none, lastResult := none, busy := false,
    conditioned := !mgmt, restore := .stopped, fwd := Debounce.reset, cuBack := Debounce.reset,
    spBack := Debounce.reset, spLast := none, freeze := none, heard := 0b1001 }

/-- R77, R78. -/
def MoveTable.reset : MoveTable := { slots := Table.replicate 64 none, tagCounter := 0 }

/-- R111: every octet FF. -/
def HistRow.reset : HistRow := { copper := Table.replicate 16 ffFrame, span := ffSpan }

/-- R111, R112, R114, R115. -/
def AlignUnit.reset : AlignUnit :=
  { history := Table.replicate 512 HistRow.reset, copperMark := Table.replicate 16 0, spanMark := 0,
    copperDeleted := Table.replicate 16 false, spanDeleted := false, queue := [],
    corrs := Table.replicate 8 { rec? := none, justFreed := false } }

/-- R133, R134, R141. -/
def OrderUnit.reset : OrderUnit := { list := [], counter := 0, turn := none, stage := .promotion }

/-- R166. -/
def Link.reset : Link :=
  { outQ := [], inQ := [], txFirst := none, txSecond := none, taken := false, holdOff := false, answersDropped := 0,
    inboundDrops := 0, stale := 0 }

/-- 09, After device reset. Frame 0 begins an IDLE cell on the span entry (R170). -/
def Mgmt.reset : Mgmt :=
  { slotRx := { locked := false, bad := 0, buf := [] }, slotTx := none, slotQ := [], slotDiscards := 0,
    spanTx := { octets := encodeCell idleCell, restart := false }, spanQ := [], spanSync := false, spanAsm := none,
    spanReady := [], spanDiscards := 0, proxy := none, proxyTagCounter := 0, eventCounter := 0, causes := 0,
    enables := 0, attention := false, restart := .idle }

/-- The straps of State.reset, those of the example of 01 (log 9): SITE 01, MGMT 2, MSLOT 0, REF 2. -/
def exampleStraps : Straps := { site := 0b01, mgmt := 2, mslot := 0, ref := 2 }

end Sys2Proof.Machine
end

