-- ==== Sys2Proof/Machine/State.lean ====
section
/-! DEFINITION. The state of the block as plain data, its reset, and the reasons a step can stop. -/
namespace Sys2Proof.Machine

/-- Everything the manual gives the machine, block by block, the frames last sent, and the queue of commands. -/
structure State where
  dev : Device
  timing : Timing
  params : Params
  trunks : Table 16 Trunk
  sw : Table 16 PortRx
  line : Table 16 PortRx
  span : SpanRx
  map : CircuitMap
  circuits : Table 480 Circuit
  moves : MoveTable
  align : AlignUnit
  orders : OrderUnit
  link : Link
  mgmt : Mgmt
  tx : Option TxFrames
  pending : List Instr
  deriving DecidableEq, Repr

/-- No step of this block ends in a fault: the manual names no condition that stops the device (log 31). -/
inductive Fault
  deriving DecidableEq, Repr

/-- Why a step has no meaning. -/
inductive Refusal
  /-- Raised by exec for a row without a meaning yet; safe. Every row has its meaning, so no step answers it. -/
  | notModelled (mnemonic : String)
  deriving DecidableEq, Repr

/-- What a step answers. -/
abbrev Result := Host.Outcome State Fault Refusal

/-- The state at the end of a device reset with the given straps (R21); the queue of commands is outside the device. -/
def State.resetWith (st : Straps) (queue : List Instr) : State :=
  { dev := Device.reset st
    timing := Timing.reset st
    params := Params.reset
    trunks := Table.ofFn (Trunk.reset st)
    sw := Table.replicate 16 PortRx.reset
    line := Table.replicate 16 PortRx.reset
    span := SpanRx.reset
    map := CircuitMap.reset st
    circuits := Table.ofFn fun c => Circuit.reset (strapMgmtCircuit st = some c)
    moves := MoveTable.reset
    align := AlignUnit.reset
    orders := OrderUnit.reset
    link := Link.reset
    mgmt := Mgmt.reset
    tx := none
    pending := queue }

/-- The machine right after reset, strapped as in the example of 01 (log 9). -/
def State.reset : State := State.resetWith exampleStraps []

end Sys2Proof.Machine
end

