-- ==== Sys2Proof/Machine/Ops.lean ====
section
/-! DEFINITION. The named operations every step is built from: accessors of the records, causes and cells of the
management agent (09), notices offered to the coordination link (08), and the reset and power steps. -/
namespace Sys2Proof.Machine

/-! Accessors -/

/-- The site frame count of the frame in course (R12). -/
def State.now (s : State) : Frame := s.timing.count

/-- The kept fields of a circuit. -/
def State.circ (s : State) (c : CircuitId) : Circuit := s.circuits.get c

/-- The loaded fields of a circuit. -/
def State.info (s : State) (c : CircuitId) : Loaded := s.map.loaded.get c

/-- The move slot `m`, if held. -/
def State.move? (s : State) (m : MoveId) : Option Move := s.moves.slots.get m

/-- The record of trunk `k`. -/
def State.trunk (s : State) (k : TrunkId) : Trunk := s.trunks.get k

/-- The receive side of a port. -/
def State.port (s : State) : PortId → PortRx
  | .sw k => s.sw.get k
  | .line k => s.line.get k

/-- Changes the kept fields of one circuit. -/
def State.modCirc (s : State) (c : CircuitId) (f : Circuit → Circuit) : State :=
  { s with circuits := s.circuits.modify c f }

/-- Changes a held move slot. -/
def State.modMove (s : State) (m : MoveId) (f : Move → Move) : State :=
  { s with moves := { s.moves with slots := s.moves.slots.modify m (Option.map f) } }

/-- Changes one trunk. -/
def State.modTrunk (s : State) (k : TrunkId) (f : Trunk → Trunk) : State := { s with trunks := s.trunks.modify k f }

/-- Changes the receive side of one port. -/
def State.modPort (s : State) (p : PortId) (f : PortRx → PortRx) : State :=
  match p with
  | .sw k => { s with sw := s.sw.modify k f }
  | .line k => { s with line := s.line.modify k f }

/-- Changes the management agent. -/
def State.modMgmt (s : State) (f : Mgmt → Mgmt) : State := { s with mgmt := f s.mgmt }

/-- Changes the coordination link. -/
def State.modLink (s : State) (f : Link → Link) : State := { s with link := f s.link }

/-- Changes the alignment unit. -/
def State.modAlign (s : State) (f : AlignUnit → AlignUnit) : State := { s with align := f s.align }

/-- Changes the span receive. -/
def State.modSpan (s : State) (f : SpanRx → SpanRx) : State := { s with span := f s.span }

/-- Changes the order unit. -/
def State.modOrders (s : State) (f : OrderUnit → OrderUnit) : State := { s with orders := f s.orders }

/-- Changes the loaded fields of one circuit, its span slot aside. -/
def State.modInfo (s : State) (c : CircuitId) (f : Loaded → Loaded) : State :=
  { s with map := { s.map with loaded := s.map.loaded.modify c f } }

/-- The trunk of a port. -/
def portTrunk : PortId → TrunkId
  | .sw k => k
  | .line k => k

/-- The copper path of trunk `k` is available: Lk is, and the function is not SPAN_ONLY (R69). -/
def State.copperAvail (s : State) (k : TrunkId) : Bool :=
  (s.line.get k).available && (s.trunk k).function != .spanOnly

/-- A received path of circuit `c` is available (R69). -/
def State.pathAvail (s : State) (c : CircuitId) : Path → Bool
  | .copper => s.copperAvail (trunkOf c)
  | .span => s.span.usable

/-- The trunk of a circuit is INSERTED. -/
def State.inserted (s : State) (k : TrunkId) : Bool := (s.trunk k).insertion = .inserted

/-- The slot entry is open: it exists and its trunk is INSERTED (R168). -/
def State.slotEntryOpen (s : State) : Bool :=
  match strapMgmtTrunk s.dev.straps with
  | some k => s.inserted k
  | none => false

/-! Power and reset -/

/-- A step of a powered device; an unpowered one does not act (R16, log 30). -/
def whenPowered (s : State) (f : State → State) : Result := .next (if s.dev.powered then f s else s)

/-- Device reset with the levels on the strap pins (R21). -/
def resetDevice (pins : Straps) (s : State) : State := State.resetWith pins s.pending

/-- Loss of supply: every bypass output falls to the asserted position and nothing is sent (R16). -/
def losePower (s : State) : State :=
  { s with
    dev := { s.dev with powered := false }
    trunks := s.trunks.map fun t => { t with bypass := true }
    tx := none }

/-! Cells of the management agent -/

/-- Offers a cell to the slot entry's outbound queue; a full queue drops and counts it (R168). The drop of the RESTART
response is kept for the reset that follows (R182). -/
def offerSlotCell (oc : OutCell) (s : State) : State :=
  s.modMgmt fun g =>
    if g.slotQ.length < cellQueueSize then { g with slotQ := g.slotQ ++ [oc] }
    else { g with slotDiscards := bump g.slotDiscards, restart := if oc.restart then .dropped else g.restart }

/-- Offers a cell to the span entry's outbound queue (R170). -/
def offerSpanCell (oc : OutCell) (s : State) : State :=
  s.modMgmt fun g =>
    if g.spanQ.length < cellQueueSize then { g with spanQ := g.spanQ ++ [oc] }
    else { g with spanDiscards := bump g.spanDiscards, restart := if oc.restart then .dropped else g.restart }

/-- Offers a cell to the queue of an entry. -/
def offerCell : Entry → OutCell → State → State
  | .slot => offerSlotCell
  | .span => offerSpanCell

/-- Counts a cell discarded on an entry (R171). -/
def countDiscard (e : Entry) (s : State) : State :=
  s.modMgmt fun g =>
    match e with
    | .slot => { g with slotDiscards := bump g.slotDiscards }
    | .span => { g with spanDiscards := bump g.spanDiscards }

/-! Causes (R179, R180) -/

/-- The causes both pending and enabled. -/
def Mgmt.hot (g : Mgmt) : BitVec 12 := g.causes &&& g.enables

/-- The body of an EVENT cell: pending set and top cause (10.3). -/
def Mgmt.eventBody (g : Mgmt) : List Byte := causeOctets g.causes ++ [nat8 (topCause g.hot)]

/-- One EVENT cell is offered, or the one still queued is rewritten (R180). -/
def offerEvent (s : State) : State :=
  if s.mgmt.slotQ.any fun oc => oc.cell.kind = kindEvent then
    s.modMgmt fun g =>
      { g with slotQ := g.slotQ.map fun oc =>
          if oc.cell.kind = kindEvent then { oc with cell := { oc.cell with body := g.eventBody } } else oc }
  else
    (offerSlotCell
      { cell := { kind := kindEvent, tag := s.mgmt.eventCounter, target := targetLocal, status := 0,
                  body := s.mgmt.eventBody },
        restart := false } s).modMgmt fun g => { g with eventCounter := g.eventCounter + 1 }

/-- Attention is judged again; its rise offers an EVENT cell where a slot entry exists (R180). -/
def judgeAttention (s : State) : State :=
  let t := s.modMgmt fun g => { g with attention := g.hot != 0 }
  if (s.mgmt.hot != 0) && !s.mgmt.attention && (strapMgmtTrunk s.dev.straps).isSome then offerEvent t else t

/-- Raises a cause (R179). -/
def raise (c : Cause) (s : State) : State :=
  judgeAttention (s.modMgmt fun g => { g with causes := g.causes ||| c.bit })

/-! Notices (R150, R151, R153) -/

/-- Offers a notice to the outbound queue. While the span is not usable it is discarded uncounted; a full queue raises
NOTICE_LOSS and counts a notice that no slot owns (R150, R151). -/
def offerNotice (n : Notice) (owner : Option MoveId) (s : State) : State :=
  if !s.span.usable then s
  else if s.link.outQ.length < outboundSize then s.modLink fun l => { l with outQ := l.outQ ++ [⟨n, owner⟩] }
  else raise .noticeLoss (if owner.isNone then s.modLink fun l => { l with answersDropped := bump l.answersDropped } else s)

/-- Removes the queued sending that slot `m` owns (R151). -/
def dropOwned (m : MoveId) (s : State) : State :=
  s.modLink fun l => { l with outQ := l.outQ.filter fun o => o.owner != some m }

/-- Slot `m` still has a sending queued (R153). -/
def sendingQueued (m : MoveId) (s : State) : Bool := s.link.outQ.any fun o => o.owner = some m

/-- The request notice of a move: the circuit's span slot, the slot's tag and direction (R149). -/
def requestNotice (s : State) (v : Move) (k : ReqKind) (force : Bool) : Option Notice :=
  (s.info v.circuit).slot.map fun sl => { kind := .req k, dir := v.dir, force := force, slot := sl, tag := v.tag }

/-- Offers one sending of a request of move `v`. -/
def offerRequest (v : Move) (k : ReqKind) (force : Bool) (owner : Option MoveId) (s : State) : State :=
  match requestNotice s v k force with
  | some n => offerNotice n owner s
  | none => s

/-- Makes a request the pending request of slot `m`: full tries, the first sending offered and one try spent, the repeat
timer from 0; the sending of the request it replaces is removed (R151, R153). -/
def makeRequest (m : MoveId) (k : ReqKind) (force : Bool) (s : State) : State :=
  match s.move? m with
  | none => s
  | some v =>
    offerRequest v k force (some m) ((dropOwned m s).modMove m fun w =>
      { w with request := some { kind := k, force := force, tries := s.params.tries - 1, timer := .counting 0 } })

/-- Ends the pending request of slot `m` (R151, R153). -/
def endRequest (m : MoveId) (s : State) : State := (dropOwned m s).modMove m fun w => { w with request := none }

/-- The single ABANDON of move `v`, sent once without waiting (R150). -/
def abandonOnce (v : Move) (s : State) : State := offerRequest v .abandon false none s

/-- Answers a request: the answer carries its span slot, tag and direction (R149). -/
def answer (n : Notice) (k : ReqKind) (s : State) : State :=
  offerNotice { n with kind := .ans k, force := false } none s

/-- Answers a request of kind `k` with REFUSE. -/
def refuse (n : Notice) (r : RefuseReason) (k : ReqKind) (s : State) : State :=
  offerNotice { n with kind := .refuse r k, force := false } none s

/-- Folds an operation over a list of indices. -/
def forEach {ι : Type} (l : List ι) (f : ι → State → State) (s : State) : State := l.foldl (fun t i => f i t) s

end Sys2Proof.Machine
end

