-- ==== Sys2Proof/Machine/Flags.lean ====
section
/-! DEFINITION. The judged flags: call state, availability, span usable, degrade, peer presence, END conflict, hold-off. -/
namespace Sys2Proof.Machine

/-- The call state judged from the debounced codes: IDLE exactly when the forward code is idle-out and the selected
path's backward code is idle-in; true for BUSY (R63). -/
def callBusy (t : TrunkCodes) (c : Circuit) : Bool :=
  let back := match c.sel with
    | .copper => c.cuBack.code
    | .span => c.spBack.code
  !(c.fwd.code = t.idleOut && back = t.idleIn)

/-- The debounced backward code of the selected path (R65). -/
def backCode (c : Circuit) : Code :=
  match c.sel with
  | .copper => c.cuBack.code
  | .span => c.spBack.code

/-- A port is multiframe-aligned (R2). -/
def MfState.isAligned : MfState → Bool
  | .aligned _ _ _ => true
  | _ => false

/-- The available flag of a port: no LOS, LOF or AIS, and multiframe-aligned (R4). -/
def PortRx.judgeAvailable (p : PortRx) : Bool := !p.los && p.align = .aligned && !p.ais && p.mf.isAligned

/-- A port's cause is not raised: Lk of a SPAN_ONLY trunk, either port of a MONITOR trunk (R4, R7). -/
def portSilent (s : State) (p : PortId) : Bool :=
  match p with
  | .sw k => (s.trunk k).function = .monitor
  | .line k => (s.trunk k).function != .trunk

/-- The span usable condition (R40). -/
def SpanRx.judgeUsable (r : SpanRx) : Bool := r.align = .aligned && !r.degrade && r.present && !r.conflict

/-- One errored frame (R29, R32, R33): both counts increase; an errored count at or above D sets the flag and
the streak to 0. -/
def SpanRx.countErrored (d : Nat) (r : SpanRx) : SpanRx :=
  let n := r.errCount + 1
  { r with
    errored := bump r.errored
    errCount := n
    degrade := r.degrade || decide (d ≤ n)
    streak := if d ≤ n then 0 else r.streak }

/-- The runs and the peer present flag after one sound frame (R38); `running` is its state field. -/
def SpanRx.judgePresence (running : Bool) (r : SpanRx) : SpanRx :=
  if running then
    let n := min 16 (r.runningRun + 1)
    { r with runningRun := n, otherRun := 0, present := r.present || n = 16 }
  else
    let n := min 16 (r.otherRun + 1)
    { r with otherRun := n, runningRun := 0, present := r.present && n != 16 }

/-- The runs and the END conflict flag after one sound frame (R39); `same` says that its END equals this device's. -/
def SpanRx.judgeConflict (same : Bool) (r : SpanRx) : SpanRx :=
  if same then
    let n := min 16 (r.sameRun + 1)
    { r with sameRun := n, differRun := 0, conflict := r.conflict || n = 16 }
  else
    let n := min 16 (r.differRun + 1)
    { r with differRun := n, sameRun := 0, conflict := r.conflict && n != 16 }

/-- The interval judged at its end (R33): clean when its errored count is below D/2 and it was ALIGNED throughout; the
third clean second in succession clears a set flag. -/
def SpanRx.judgeInterval (d : Nat) (r : SpanRx) : SpanRx :=
  let clean := decide (r.errCount < d / 2) && r.alignedThroughout
  let n := if clean then r.streak + 1 else 0
  let clears := r.degrade && decide (3 ≤ n)
  { r with
    intervalEnd := false
    errCount := 0
    alignedThroughout := r.align = .aligned
    streak := if clears then 0 else n
    degrade := r.degrade && !clears }

/-- The hold-off flag compared with the marks in force (R157). -/
def judgeHoldOff (s : State) : State :=
  let fill := s.link.inQ.length
  s.modLink fun l =>
    { l with holdOff :=
        if s.params.marks.1 ≤ fill then true else if fill ≤ s.params.marks.2 then false else l.holdOff }

end Sys2Proof.Machine
end

