-- ==== Sys2Proof/Machine/Rolls.lean ====
section
/-! DEFINITION. Rolls due, roll decisions and the alignment queue, as the move controller uses them (R90 to R92, R97,
R105, R114). -/
namespace Sys2Proof.Machine

/-- The next multiframe boundary after a frame (00, Frames and multiframes). -/
def nextBoundary (f : Frame) : Frame := (f &&& 0xFFFFFFF0#32) + 16

/-- A frame is a multiframe boundary. -/
def atBoundary (f : Frame) : Bool := f &&& 15#32 = 0

/-- Sets the move state of a circuit. -/
def setMoveState (c : CircuitId) (st : MoveState) (s : State) : State := s.modCirc c fun r => { r with state := st }

/-- The roll decision (R91, R124): a replay within the slew limit makes a HITLESS roll due at the next boundary, a
greater one puts the circuit in ROLL_PENDING, whose first entry starts the quiet-wait timer (R92). -/
def rollDecision (m : MoveId) (s : State) : State :=
  match s.move? m with
  | none => s
  | some v =>
    match v.result with
    | none => s
    | some r =>
      if r.replay ≤ s.params.slew then
        s.modMove m fun w => { w with rollDue := some ⟨nextBoundary s.now, .hitless⟩, validity := .stopped }
      else
        setMoveState v.circuit .rollPending (s.modMove m fun w =>
          { w with validity := .stopped, quiet := if w.quiet = .stopped then .counting 0 else w.quiet, tested := true })

/-- A circuit in ALIGNED with no roll due waits for its ROLL command under the validity timer, or takes the roll
decision at once (R91). -/
def awaitRoll (m : MoveId) (s : State) : State :=
  match s.move? m with
  | none => s
  | some v =>
    if (s.info v.circuit).rollOnCommand then s.modMove m fun w => { w with validity := .counting 0 }
    else rollDecision m s

/-- An idle roll becomes due at the next boundary unless a roll is due already (R97). -/
def giveIdleRoll (m : MoveId) (s : State) : State :=
  s.modMove m fun w =>
    if w.rollDue.isNone then { w with rollDue := some ⟨nextBoundary s.now, .idleRoll⟩, validity := .stopped } else w

/-- A rescue roll becomes due in the next frame and overrides any other roll due (R105). -/
def giveRescue (m : MoveId) (s : State) : State :=
  s.modMove m fun w =>
    if w.rollDue.any fun d => d.kind = .rescue then w
    else { w with rollDue := some ⟨s.now + 1, .rescue⟩, validity := .stopped }

/-- An idle roll due is withdrawn (R97). -/
def withdrawIdleRoll (m : MoveId) (s : State) : State :=
  match s.move? m with
  | none => s
  | some v =>
    if v.rollDue.any fun d => d.kind = .idleRoll then
      let t := s.modMove m fun w => { w with rollDue := none }
      if (s.circ v.circuit).state = .aligned then awaitRoll m t else t
    else s

/-- The circuit of slot `m` enters BRIDGED: it joins the tail of the alignment queue, and is given the rescue or idle
roll that its entry finds called for (R90). -/
def enterBridged (m : MoveId) (s : State) : State :=
  match s.move? m with
  | none => s
  | some v =>
    let t := (setMoveState v.circuit .bridged s).modAlign fun a => { a with queue := a.queue ++ [⟨v.circuit, true⟩] }
    if v.dir = .toSpan && !s.copperAvail (trunkOf v.circuit) then giveRescue m t
    else if !(s.circ v.circuit).busy then giveIdleRoll m t
    else t

/-- A circuit in ALIGNED or ROLL_PENDING loses its result: a HITLESS roll due is withdrawn and the circuit returns to
BRIDGED at the queue's tail (R91, R92, R129). -/
def returnToBridged (m : MoveId) (s : State) : State :=
  enterBridged m (s.modMove m fun w =>
    { w with
      result := none
      validity := .stopped
      rollDue := if w.rollDue.any fun d => d.kind = .hitless then none else w.rollDue })

/-- A circuit leaves the alignment unit: its queue entry goes, and its correlator is freed (R114, R116). -/
def leaveAlign (c : CircuitId) (s : State) : State :=
  s.modAlign fun a =>
    { a with
      queue := a.queue.filter fun e => e.circuit != c
      corrs := a.corrs.map fun k => if k.rec?.any fun x => x.circuit = c then { rec? := none, justFreed := true } else k }

end Sys2Proof.Machine
end

