-- ==== Sys2Proof/Machine/Signalling.lean ====
section
/-! DEFINITION. The signalling unit: debouncing, call state, freeze, conditioning, and what the switch hears (04). -/
namespace Sys2Proof.Machine

/-! Debouncing (R60, R61) -/

/-- One observation judged against a record with persistence count `p`; after a gap a code equal to the candidate
restarts the run at 1. -/
def Debounce.observe (p : Nat) (gap : Bool) (code : Code) (d : Debounce) : Debounce :=
  if code = d.code then { d with cand := none, count := 0 }
  else
    let n := if d.cand = some code && !gap then d.count + 1 else 1
    if p ≤ n then { code := code, cand := none, count := 0 } else { d with cand := some code, count := n }

/-- A run in progress does not survive an interruption (R61). -/
def Debounce.interrupt (d : Debounce) : Debounce := { d with cand := none, count := 0 }

/-! Call state (R63, R64, R97) -/

/-- Judges the call state of a circuit anew. A change to IDLE gives a bridged circuit an idle roll, a change to BUSY
withdraws one (R97). -/
def judgeCall (c : CircuitId) (s : State) : State :=
  let r := s.circ c
  let b := callBusy (s.trunk (trunkOf c)).codes r
  if b = r.busy then s
  else
    let t := s.modCirc c fun r => { r with busy := b }
    match r.moveSlot with
    | none => t
    | some m => if !r.state.awaitsRoll then t else if b then withdrawIdleRoll m t else giveIdleRoll m t

/-- One forward code observed on Sk (R59). -/
def observeForward (c : CircuitId) (code : Code) (s : State) : State :=
  if (s.info c).mgmt then s
  else judgeCall c (s.modCirc c fun r => { r with fwd := r.fwd.observe s.params.persistenceNow false code })

/-- One copper backward code observed on Lk (R59). -/
def observeCopper (c : CircuitId) (code : Code) (s : State) : State :=
  if (s.info c).mgmt then s
  else judgeCall c (s.modCirc c fun r => { r with cuBack := r.cuBack.observe s.params.persistenceNow false code })

/-- One span backward code observed in the received frame numbered `num` (R59, R61). -/
def observeSpan (c : CircuitId) (num : Word16) (code : Code) (s : State) : State :=
  judgeCall c (s.modCirc c fun r =>
    { r with
      spBack := r.spBack.observe s.params.persistenceNow (r.spLast != some (num - 16)) code
      spLast := some num })

/-- The span backward record of a circuit whose span slot is written takes its reset values (R47, R59). -/
def restartSpanBackward (c : CircuitId) (s : State) : State :=
  judgeCall c (s.modCirc c fun r => { r with spBack := { code := 0b1001, cand := none, count := 0 }, spLast := none })

/-! Conditioning (R69 to R71) -/

/-- The copper path of trunk `k` became unavailable: circuits that listen to it are conditioned (R69). -/
def conditionCopper (k : TrunkId) (s : State) : State :=
  { s with circuits := s.circuits.mapIdx fun c r =>
      if trunkOf c = k && r.sel = .copper && !(s.info c).mgmt then { r with conditioned := true } else r }

/-- The copper path of trunk `k` became available (R70). -/
def uncondCopper (k : TrunkId) (s : State) : State :=
  { s with circuits := s.circuits.mapIdx fun c r =>
      if trunkOf c = k && r.sel = .copper then { r with conditioned := false } else r }

/-- The span usable flag fell: circuits that listen to the span are conditioned, every restore timer stops (R69, R71). -/
def conditionSpan (s : State) : State :=
  { s with circuits := s.circuits.map fun r =>
      { r with conditioned := r.conditioned || r.sel = .span, restore := .stopped } }

/-- The span usable flag rose: the restore timer of each circuit conditioned on the span starts from 0 (R71). -/
def startRestore (s : State) : State :=
  { s with circuits := s.circuits.map fun r =>
      if r.sel = .span && r.conditioned then { r with restore := .counting 0 } else r }

/-! Selecting a receive path (R64, R67, R69 to R71, R79) -/

/-- How a change of the selected receive path is handed to the signalling unit (R79). -/
inductive Change
  | roll
  | rollback
  | other
  deriving DecidableEq, Repr

/-- Selects a receive path. A roll or rollback writes the freeze record with the code of case 3 or 4 in the frame before
and the end frame 16F later (R67); the circuit is conditioned exactly when the path now selected is unavailable, its
restore timer stops (R69 to R71), and the call state is judged anew (R64). -/
def selectPath (c : CircuitId) (p : Path) (how : Change) (s : State) : State :=
  judgeCall c (s.modCirc c fun r =>
    { r with
      sel := p
      conditioned := !s.pathAvail c p
      restore := .stopped
      freeze := match how with
        | .other => r.freeze
        | _ => some { code := r.heard, endFrame := s.now + BitVec.ofNat 32 (16 * s.params.freezeNow) } })

/-- Sets the depth of a path. -/
def Circuit.setDepth (r : Circuit) (p : Path) (d : Byte) : Circuit :=
  match p with
  | .copper => { r with cuDepth := d }
  | .span => { r with spDepth := d }

/-- The depth of a path. -/
def Circuit.depth (r : Circuit) : Path → Byte
  | .copper => r.cuDepth
  | .span => r.spDepth

/-- Turns the transmit of a path on or off. -/
def Circuit.setTx (r : Circuit) (p : Path) (on : Bool) : Circuit :=
  match p with
  | .copper => { r with cuTx := on }
  | .span => { r with spTx := on }

/-- The depth of the path not selected becomes 0 (R79). -/
def Circuit.clearUnselected (r : Circuit) : Circuit :=
  match r.sel with
  | .copper => { r with spDepth := 0 }
  | .span => { r with cuDepth := 0 }

/-! What the switch hears (R65, R67) -/

/-- The code of case 3 or case 4: the freeze code of a running window, else the selected path's debounced code. -/
def frozenOrSteady (r : Circuit) : Code :=
  match r.freeze with
  | some f => f.code
  | none => backCode r

/-- The backward code presented to the switch (R65). -/
def presentedCode (t : TrunkCodes) (r : Circuit) : Code :=
  if r.conditioned then t.conditioning else if r.blocked then t.blocking else frozenOrSteady r

end Sys2Proof.Machine
end

