-- ==== Sys2Proof/Machine/OrderList.lean ====
section
/-! DEFINITION. The order list, the ring and its turn, and the judgement of an order (R133, R141, R143). -/
namespace Sys2Proof.Machine

/-- How many entries stand in a state (R133). -/
def Order.countOf (o : Order) (st : EntryState) : Nat := o.entries.countP fun e => e.state = st

/-- Every entry is MOVED or FAILED (R143). -/
def Order.settled (o : Order) : Bool := o.countOf .moved + o.countOf .failed = o.entries.length

/-- An order is in the ring: ACTIVE with its closing absent (R141). -/
def Order.inRing (o : Order) : Bool := o.state = .active && o.closing.isNone

/-- The order of a number. -/
def State.order? (s : State) (n : Byte) : Option Order := s.orders.list.find? fun o => o.number = n

/-- Changes the order of a number. -/
def State.modOrder (s : State) (n : Byte) (f : Order → Order) : State :=
  s.modOrders fun u => { u with list := u.list.map fun o => if o.number = n then f o else o }

/-- The numbers of the ring in list order. -/
def OrderUnit.ring (u : OrderUnit) : List Byte := (u.list.filter Order.inRing).map Order.number

/-- The member of the ring after `n`, going round; none when there is no other. -/
def OrderUnit.after (u : OrderUnit) (n : Byte) : Option Byte :=
  (((u.ring.dropWhile fun x => x != n).drop 1) ++ u.ring.takeWhile fun x => x != n).head?

/-- An order about to leave the ring passes the turn on if it holds it (R141). -/
def passTurnFrom (n : Byte) (s : State) : State :=
  s.modOrders fun u => if u.turn = some n then { u with turn := u.after n } else u

/-- An order that joins the ring while the turn is none takes it (R141). -/
def takeTurn (n : Byte) (s : State) : State :=
  s.modOrders fun u => if u.turn.isNone then { u with turn := some n } else u

/-- An ACTIVE order finishes: it leaves the ring, its timer stops, its closing becomes absent and ORDER_END is
raised (R143). -/
def endOrder (n : Byte) (st : OrderState) (s : State) : State :=
  raise .orderEnd ((passTurnFrom n s).modOrder n fun o => { o with state := st, closing := none, timer := .stopped })

/-- Judges an ACTIVE order (R143). -/
def judgeOrder (n : Byte) (s : State) : State :=
  match s.order? n with
  | none => s
  | some o =>
    if o.state != .active then s
    else if o.settled then endOrder n .done s
    else match o.closing with
      | none => s
      | some cl =>
        if o.countOf .inFlight = 0 then
          endOrder n (match cl with | .cancel => .cancelled | .deadline => .expired) s
        else s

/-- Sets the closing of an ACTIVE order, which leaves the ring and is judged (R144, R145). -/
def closeOrder (n : Byte) (cl : Closing) (s : State) : State :=
  judgeOrder n ((passTurnFrom n s).modOrder n fun o => { o with closing := some cl })

/-- Sets the entry of a circuit in an order's list. -/
def setEntry (n : Byte) (c : CircuitId) (st : EntryState) (s : State) : State :=
  s.modOrder n fun o =>
    { o with entries := o.entries.map fun e => if e.circuit = c then { e with state := st } else e }

/-- The end of an admitted move, completed or failed, is counted (R101, R143). -/
def moveEnded (n : Option Byte) (c : CircuitId) (completed : Bool) (s : State) : State :=
  match n with
  | none => s
  | some n =>
    judgeOrder n (setEntry n c (if completed then .moved else .failed) (s.modCirc c fun r => { r with order := none }))

end Sys2Proof.Machine
end

