-- ==== Sys2Proof/Machine/Moves.lean ====
section
/-! DEFINITION. The move controller: taking and freeing slots, beginning, completing, failing and undoing moves, the
roll, the fallback and the loss of the copper path (05). -/
namespace Sys2Proof.Machine

/-! Slots (R77, R78) -/

/-- The lowest-numbered free move slot. -/
def State.freeMove? (s : State) : Option MoveId := s.moves.slots.first? Option.isNone

/-- The held move slots in slot order. -/
def State.heldMoves (s : State) : List MoveId := s.moves.slots.indices Option.isSome

/-- Takes slot `m` for a circuit with the tag of the tag counter (R77, R78). -/
def takeSlot (m : MoveId) (c : CircuitId) (role : Role) (kind : MoveKind) (dir : Dir) (peerTag : Option Word16)
    (order : Option Byte) (s : State) : State :=
  { s with
    moves :=
      { slots := s.moves.slots.set m (some
          { circuit := c, tag := s.moves.tagCounter, peerTag := peerTag, role := role, kind := kind, dir := dir,
            request := none, peerRolled := false, ownRolledNoted := false, rollDue := none, progress := .stopped,
            quiet := .stopped, validity := .stopped, soak := .stopped, result := none, order := order, made := none,
            tested := false })
        tagCounter := s.moves.tagCounter + 1 }
    circuits := s.circuits.modify c fun r => { r with moveSlot := some m, dir := some dir, order := order } }

/-- Frees slot `m`; its queued sending goes (R77, R151). -/
def freeSlot (m : MoveId) (s : State) : State :=
  let t := dropOwned m s
  { t with moves := { t.moves with slots := t.moves.slots.set m none } }

/-! Faults and ends (R51, R101) -/

/-- Writes the last fault. -/
def writeFault (c : CircuitId) (f : FaultCode) (s : State) : State := s.modCirc c fun r => { r with lastFault := some f }

/-- Writes the last fault of a failed ending other than a fallback and raises MOVE_FAILED (R101). -/
def failFault (c : CircuitId) (f : FaultCode) (s : State) : State := raise .moveFailed (writeFault c f s)

/-- The receive path of a rest state. -/
def MoveState.restPath : MoveState → Path
  | .moved => .span
  | _ => .copper

/-- The move of slot `m` ends at a rest state: slot freed, alignment unit left, paths of the rest state in one frame,
depth of the path not selected 0, the end handed to the order unit (R77, R79, R101). `how` marks the change of
the receive path, where there is one. -/
def endMove (m : MoveId) (rest : MoveState) (how : Change) (completed : Bool) (s : State) : State :=
  match s.move? m with
  | none => s
  | some v =>
    let t := (leaveAlign v.circuit (freeSlot m s)).modCirc v.circuit fun r =>
      { r with
        state := rest
        dir := none
        moveSlot := none
        cuTx := rest.restPath = .copper
        spTx := rest.restPath = .span }
    let t := if (t.circ v.circuit).sel = rest.restPath then t else selectPath v.circuit rest.restPath how t
    moveEnded v.order v.circuit completed (t.modCirc v.circuit Circuit.clearUnselected)

/-- The move of slot `m` completes with a last result (R101). -/
def completeMove (m : MoveId) (r : MoveResult) (s : State) : State :=
  match s.move? m with
  | none => s
  | some v => (endMove m v.dir.targetRest .other true s).modCirc v.circuit fun q => { q with lastResult := some r }

/-- The last result of a swap (R101). Its replay, which the manual states for a roll alone, is 0: the model's choice
(log 44). -/
def swapResult (k : MoveKind) : MoveResult :=
  { kind := if k = .force then .force else .cold, lag := none, replay := 0 }

/-- The swap of a COLD or FORCE move: receive path to the new path at depth 0, new-path transmit on, old-path transmit
off, in one frame (R84). It is no roll (R67). -/
def swapPaths (c : CircuitId) (d : Dir) (s : State) : State :=
  selectPath c d.newPath .other (s.modCirc c fun r => ((r.setDepth d.newPath 0).setTx d.newPath true).setTx d.oldPath false)

/-- The swap of an initiator: paths swapped, SWAP pending, SWAPPING (R84, R88). -/
def initiatorSwap (m : MoveId) (force : Bool) (s : State) : State :=
  match s.move? m with
  | none => s
  | some v => makeRequest m .swap force (swapPaths v.circuit v.dir (setMoveState v.circuit .swapping s))

/-- A move in BLOCKING or SWAPPING fails and is undone at once: paths of the starting rest state, block cleared or held,
slot freed, fault written; with a single ABANDON where the rule sends one (R84 to R87). -/
def undoMove (m : MoveId) (f : FaultCode) (held sendAbandon : Bool) (s : State) : State :=
  match s.move? m with
  | none => s
  | some v =>
    let t := if sendAbandon then abandonOnce v s else s
    failFault v.circuit f
      (endMove m v.dir.startRest .other false (t.modCirc v.circuit fun r => { r with blocked := held }))

/-- A hitless move in flight fails: a rolled circuit rolls back, a roll due is withdrawn, the alignment unit is left, the
timers stop, ABANDON replaces the pending request, and the circuit enters ABANDONING (R98). -/
def failHitless (m : MoveId) (f : FaultCode) (s : State) : State :=
  match s.move? m with
  | none => s
  | some v =>
    let t := setMoveState v.circuit .abandoning s
    let t := if (s.circ v.circuit).state = .rolled then selectPath v.circuit v.dir.oldPath .rollback t else t
    let t := (leaveAlign v.circuit t).modMove m fun w =>
      { w with rollDue := none, progress := .stopped, quiet := .stopped, validity := .stopped, soak := .stopped }
    failFault v.circuit f (makeRequest m .abandon false t)

/-- The end of an abandon: the circuit returns to its starting rest state and its fault stands (R99). -/
def finishAbandon (m : MoveId) (s : State) : State :=
  match s.move? m with
  | none => s
  | some v => endMove m v.dir.startRest .other false s

/-- The release of the old transmit path completes the move (R96). -/
def releaseMove (m : MoveId) (s : State) : State :=
  match s.move? m with
  | none => s
  | some v =>
    match v.made with
    | some r => completeMove m r s
    | none => s

/-! Beginning a move (R80, R81, R82, R88, R89) -/

/-- The checks of R80 on a circuit that exists, in their order, but for the free slot. -/
def beginCheck (s : State) (c : CircuitId) (d : Dir) : Option Reason :=
  if (s.info c).mgmt then some .mgmtChannel
  else if s.dev.devState = .hold then some .held
  else if (s.circ c).state != d.startRest || (s.circ c).blocked then some .wrongState
  else if (s.info c).slot.isNone then some .unmapped
  else if !s.inserted (trunkOf c) || (d = .toCopper && !s.copperAvail (trunkOf c)) then some .trunkDown
  else if !s.span.usable then some .spanDown
  else if (s.info c).policy = .atClear && (s.circ c).busy then some .busyCall
  else none

/-- The kind of a move from policy and call state (R81). -/
def moveKind (p : Policy) (busy : Bool) : MoveKind :=
  match p with
  | .auto => if busy then .hitless else .cold
  | .atClear => .cold
  | .force => .force

/-- Begins a move at the initiator in free slot `m` (R81, R82, R88, R89). -/
def beginMove (m : MoveId) (c : CircuitId) (d : Dir) (order : Option Byte) (s : State) : State :=
  let k := moveKind (s.info c).policy (s.circ c).busy
  let t := takeSlot m c .initiator k d none order s
  match k with
  | .cold => makeRequest m .block false (setMoveState c .blocking (t.modCirc c fun r => { r with blocked := true }))
  | .force => initiatorSwap m true t
  | .hitless =>
    makeRequest m .bridge false (setMoveState c .bridging (t.modCirc c fun r => r.setTx d.newPath true))

/-! The roll (R93) -/

/-- Makes the roll of kind `k`: receive path to the new path at the roll's depth, ROLLED pending, and the peer progress
timer while the peer has not rolled. -/
def makeRoll (m : MoveId) (k : RollKind) (s : State) : State :=
  match s.move? m with
  | none => s
  | some v =>
    let depth : Byte := v.result.elim 0 AlignResult.depth
    let made : MoveResult :=
      { kind := k.resultKind
        lag := if k = .hitless then v.result.map AlignResult.lag else none
        replay := v.result.elim 0 AlignResult.replay }
    let t := (leaveAlign v.circuit (setMoveState v.circuit .rolled s)).modMove m fun w =>
      { w with
        rollDue := none
        validity := .stopped
        quiet := .stopped
        made := some made
        progress := if w.peerRolled then .stopped else .counting 0 }
    makeRequest m .rolled false
      (selectPath v.circuit v.dir.newPath .roll (t.modCirc v.circuit fun r => r.setDepth v.dir.newPath depth))

/-- The soak timer starts in the frame in which both ends have rolled and this end's ROLLED is noted (R95). -/
def startSoak (m : MoveId) (s : State) : State :=
  s.modMove m fun w =>
    if w.peerRolled && w.ownRolledNoted then { w with soak := Timer.start (s.params.soak * framesPerSecond) } else w

/-! Loss of the copper path (R105, R106) -/

/-- The loss of the copper path as it acts on the move of slot `m`. -/
def copperLostMove (m : MoveId) (s : State) : State :=
  match s.move? m with
  | none => s
  | some v =>
    match v.dir, (s.circ v.circuit).state with
    | .toSpan, .bridged | .toSpan, .aligned | .toSpan, .rollPending => giveRescue m s
    | .toSpan, _ => s
    | .toCopper, .blocking => undoMove m .copperLost false true s
    | .toCopper, .swapping => undoMove m .copperLost true true s
    | .toCopper, .abandoning => s
    | .toCopper, _ => failHitless m .copperLost s

/-- The copper path of trunk `k` became unavailable: every move of the trunk in flight, in slot order. -/
def copperLostMoves (k : TrunkId) (s : State) : State :=
  forEach (s.moves.slots.indices fun x => x.any fun v => trunkOf v.circuit = k) copperLostMove s

/-! Fallback on span loss (R102, R103) -/

/-- The fallback of the move of slot `m`. -/
def fallBackMove (m : MoveId) (s : State) : State :=
  match s.move? m with
  | none => s
  | some v =>
    let c := v.circuit
    let start := endMove m v.dir.startRest .rollback false
    let hold (b : Bool) (t : State) : State := t.modCirc c fun r => { r with blocked := b }
    match (s.circ c).state, v.dir with
    | .blocking, _ => writeFault c .spanLost (start (hold false s))
    | .swapping, _ => writeFault c .swapUnresolved (endMove m v.dir.startRest .other false (hold true s))
    | .bridged, .toCopper | .aligned, .toCopper | .rollPending, .toCopper =>
      writeFault c .spanFallback (endMove m .home .other false
        (s.modCirc c fun r => { r with cuDepth := v.result.elim 0 AlignResult.depth }))
    | .rolled, .toSpan => writeFault c .spanFallback (start s)
    | .rolled, .toCopper => writeFault c .spanLost (endMove m .home .other false s)
    | .abandoning, _ => start s
    | _, _ => writeFault c .spanLost (start s)

/-- The fallback of every circuit in flight; FALLBACK is raised once if there is one (R103). -/
def fallBack (s : State) : State :=
  let t := forEach s.heldMoves fallBackMove s
  if s.heldMoves.isEmpty then t else raise .fallback t

end Sys2Proof.Machine
end

