-- ==== Sys2Proof/Machine/OrderPass.lean ====
section
/-! DEFINITION. The admission pass of a frame: promotion, resolution and grants (R137 to R142). -/
namespace Sys2Proof.Machine

/-! Promotion (R138) -/

/-- Two orders overlap: their scopes share a circuit (R135). -/
def Order.overlaps (a b : Order) : Bool := a.entries.any fun x => b.entries.any fun y => x.circuit = y.circuit

/-- The oldest PENDING order whose scope overlaps no ACTIVE order. -/
def OrderUnit.promotable (u : OrderUnit) : Option Order :=
  u.list.find? fun o => o.state = .pending && !(u.list.any fun a => a.state = .active && o.overlaps a)

/-- One promotion, while fewer than four orders are ACTIVE. -/
def promoteOne (s : State) : State :=
  if (s.orders.list.countP fun o => o.state = .active) < activeOrders then
    match s.orders.promotable with
    | none => s
    | some o =>
      takeTurn o.number (s.modOrder o.number fun p =>
        { p with state := .active, closing := none, timer := if p.deadline.isSome then .counting 0 else .stopped })
  else s

/-- The promotion part of the pass: at most four orders can be promoted. -/
def promotionPart (s : State) : State :=
  if s.orders.stage = .promotion then
    (promoteOne (promoteOne (promoteOne (promoteOne s)))).modOrders fun u => { u with stage := .resolution }
  else s

/-! Resolution (R139) -/

/-- One UNSTARTED entry of order `o` examined. -/
def resolveEntry (n : Byte) (d : Dir) (c : CircuitId) (s : State) : State :=
  let r := s.circ c
  if r.state = d.targetRest && r.moveSlot.isNone && !r.blocked then judgeOrder n (setEntry n c .moved s)
  else if r.state = d.startRest && r.moveSlot.isNone && (s.info c).slot.isNone then
    judgeOrder n (setEntry n c .failed (raise .moveFailed (writeFault c .unmapped s)))
  else s

/-- The UNSTARTED entries of an order of the ring, in channel order. -/
def resolveOrder (n : Byte) (s : State) : State :=
  match s.order? n with
  | none => s
  | some o =>
    if o.inRing then
      forEach ((o.entries.filter fun e => e.state = .unstarted).map OrderEntry.circuit) (resolveEntry n o.dir) s
    else s

/-- The resolution part of the pass: the ring's orders in list order. -/
def resolutionPart (s : State) : State :=
  if s.orders.stage = .resolution then
    (forEach s.orders.ring resolveOrder s).modOrders fun u => { u with stage := .grants }
  else s

/-! Grants (R140 to R142) -/

/-- Move slots held by circuits that orders admitted (R77, R141). -/
def State.slotsOfOrders (s : State) : Nat := s.moves.slots.count fun x => x.any fun v => v.order.isSome

/-- The lowest admissible channel of an order (R140). -/
def admissible (s : State) (o : Order) : Option CircuitId :=
  ((o.entries.filter fun e => e.state = .unstarted).map OrderEntry.circuit).find? fun c => (beginCheck s c o.dir).isNone

/-- The turn passes to the next order of the ring; in a ring of one it comes back (R141). -/
def passTurn (s : State) : State :=
  s.modOrders fun u => { u with turn := u.turn.map fun n => (u.after n).getD n }

/-- Circuit `c` is admitted into free slot `m` (R142). -/
def admitInto (m : MoveId) (n : Byte) (d : Dir) (c : CircuitId) (s : State) : State :=
  setEntry n c .inFlight (beginMove m c d (some n) s)

/-- Offers go round the ring until a free slot or the allowance runs out, or every order has been offered in succession
without a grant; `misses` counts those. -/
def grantLoop : Nat → Nat → State → State
  | 0, _, s => s
  | fuel + 1, misses, s =>
    if s.orders.ring.length ≤ misses || orderAllowance ≤ s.slotsOfOrders then s
    else match s.freeMove?, s.orders.turn.bind s.order? with
      | some m, some o =>
        match admissible s o with
        | some c => grantLoop fuel 0 (passTurn (admitInto m o.number o.dir c s))
        | none => grantLoop fuel (misses + 1) (passTurn s)
      | _, _ => s

/-- The grants part of the pass. At most 56 grants are made, each after at most three offers without one. -/
def grantPart (s : State) : State :=
  if s.orders.stage = .grants then (grantLoop 240 0 s).modOrders fun u => { u with stage := .over } else s

end Sys2Proof.Machine
end

