-- ==== Sys2Proof/Machine/Report.lean ====
section
/-! DEFINITION. What a response reports: the records of 10.4 and the bodies of 10.7. -/
namespace Sys2Proof.Machine

/-- The two bits of a field, the more significant first. -/
def twoBits (b : BitVec 2) : List Bool := [b.getLsbD 1, b.getLsbD 0]

/-- The direction field of a circuit record. -/
def dirBits : Option Dir → List Bool
  | none => [false, false]
  | some .toSpan => [false, true]
  | some .toCopper => [true, false]

/-- A lag in two octets, two's complement; 8000 when absent. -/
def lagOctets (l : Option Int) : List Byte := be16 (l.elim 0x8000 (BitVec.ofInt 16))

/-- The confirmed result held in ALIGNED and ROLL_PENDING (R132). -/
def heldResult (s : State) (c : CircuitId) : Option AlignResult :=
  let r := s.circ c
  if r.state = .aligned || r.state = .rollPending then (r.moveSlot.bind s.move?).bind Move.result else none

/-- A circuit record (10.4). -/
def circuitRecord (s : State) (c : CircuitId) : List Byte :=
  let r := s.circ c
  let i := s.info c
  let held := heldResult s c
  [nat8 (trunkOf c).val, nat8 (channelOf c)] ++ i.slot.elim [0xFF, 0xFF] (fun x => nat16 x.val) ++
    [r.state.code,
      flags (twoBits i.policy.code ++ dirBits r.dir ++ [i.rollOnCommand, i.pin, i.mgmt, r.sel = .span]),
      flags [r.cuTx, r.spTx, r.blocked, r.busy, r.conditioned],
      flags [r.order.isSome, r.lastFault.isSome, r.lastResult.isSome, held.isSome],
      r.cuDepth, r.spDepth, r.moveSlot.elim 0xFF (fun m => nat8 m.val), r.order.getD 0,
      r.lastFault.elim 0 FaultCode.code] ++
    r.lastResult.elim [0, 0, 0, 0] (fun x => x.kind.code :: (lagOctets x.lag ++ [nat8 x.replay])) ++
    held.elim [0, 0, 0, 0] (fun x => lagOctets (some x.lag) ++ [x.depth, nat8 x.replay]) ++ [0, 0, 0]

/-- The whole seconds a deadline timer has counted (10.4); above 65 535 the field is a free value (log 13). -/
def deadlineOctets (t : Timer) : List Byte :=
  let n := t.count / framesPerSecond
  if n < 65536 then nat16 n else be16 (Config.deadlineSeconds n)

/-- An order record (10.4). -/
def orderRecord (o : Order) : List Byte :=
  [o.number, nat8 o.trunk.val, nat8 o.first, nat8 o.last,
    flags (decide (o.dir = .toCopper) :: [o.state.code.getLsbD 2, o.state.code.getLsbD 1, o.state.code.getLsbD 0] ++
      twoBits (closingCode o.closing))] ++
    be16 (o.deadline.getD 0) ++ deadlineOctets o.timer ++
    [nat8 o.entries.length, nat8 (o.countOf .moved), nat8 (o.countOf .failed), nat8 (o.countOf .inFlight), 0, 0, 0]

/-- The eight octets of a circuit list, two bits an entry from bit 7 of the first octet (10.4). -/
def entryOctets (o : Order) : List Byte :=
  bitsOctets 8 ((o.entries.flatMap fun e => twoBits e.state.code) ++ List.replicate 64 false)

/-- The five codes of a trunk, coded as octets 4 to 6 of SET-TRUNK. -/
def codesOctets (t : TrunkCodes) : List Byte :=
  [codePair t.idleOut t.idleIn, codePair t.blocking t.conditioning, t.vacant]

/-- One port in a READ-TRUNK body. -/
def portOctets (r : PortRx) : List Byte :=
  [r.align.code, r.mf.code, flags [r.los, r.align != .aligned, r.ais, r.available, r.far]] ++ be16 r.slips

/-- The body of READ-TRUNK after the code (R23). -/
def trunkReport (s : State) (k : TrunkId) : List Byte :=
  let t := s.trunk k
  [nat8 k.val, t.function.code, t.insertion.code] ++
    (if t.insertion = .acquiring then nat16 t.settle else [0xFF, 0xFF]) ++
    [boolOctet t.bypass] ++ portOctets (s.sw.get k) ++ portOctets (s.line.get k) ++ codesOctets t.codes

/-- The function of a trunk as last set, in force or to take effect from the next frame (R15). -/
def Trunk.ordered (t : Trunk) : TrunkFunction := t.coming.getD t.function

/-- The body of SET-TRUNK after the code. The function is the one last set (log 16). -/
def trunkBrief (s : State) (k : TrunkId) : List Byte :=
  [nat8 k.val, (s.trunk k).ordered.code, (s.trunk k).insertion.code] ++ codesOctets (s.trunk k).codes

/-- The body of READ-PARAMETERS after the code (R174). -/
def parametersReport (s : State) : List Byte :=
  ParamId.all.flatMap fun i => nat16 (s.params.read s.timing.refPort i)

/-! STATUS (R173, 10.7) -/

/-- As many whole items as fit in `room` octets. -/
def fitItems : Nat → List (List Byte) → List (List Byte)
  | _, [] => []
  | room, x :: l => if x.length ≤ room then x :: fitItems (room - x.length) l else []

/-- A number in one octet as the layout gives it; above 255 the octet is the free value `free` (log 13). -/
def octetOr (free : Nat → Byte) (n : Nat) : Byte := if n < 256 then nat8 n else free n

/-- Part DEVICE. -/
def deviceItem (s : State) : List Byte :=
  [(s.dev.devState.code).setWidth 8, (endCode (strapEnd s.dev.straps)).setWidth 8] ++ be32 s.now ++
    [nat8 s.timing.refPort.val, boolOctet s.timing.holdover,
      if (strapMgmtTrunk s.dev.straps).isSome then boolOctet s.mgmt.slotRx.locked else 0xFF] ++
    s.mgmt.proxy.elim (List.replicate 8 0) fun p =>
      [1, p.stationTag, p.proxyTag, boolOctet (p.mode = .post)] ++ be32 (BitVec.ofNat 32 p.timer.count)

/-- Part SPAN (R42). -/
def spanItem (s : State) : List Byte :=
  let r := s.span
  [r.align.code,
    flags [r.los, r.align != .aligned, r.degrade, r.present, r.conflict, r.usable, r.rxNumber.isSome]] ++
    nat16 r.errCount ++
    [octetOr Config.streakOctet r.streak, r.peerState.elim 0xFF (fun x => x.code.setWidth 8),
      r.peerEnd.elim 0xFF (fun x => (endCode x).setWidth 8), flags [r.peerHoldOff, r.peerFarFault]] ++
    be16 (r.rxNumber.getD 0) ++ [nat8 r.store.length]

/-- One correlator of part ALIGNMENT (R132). -/
def correlatorItem (k : Correlator) : List Byte :=
  k.rec?.elim (List.replicate 15 0) fun x =>
    [1, nat8 (trunkOf x.circuit).val, nat8 (channelOf x.circuit)] ++ be32 x.e0 ++
      [octetOr Config.nextWindowOctet x.next] ++ lagOctets x.cand ++ [nat8 x.noneStreak] ++
      be32 (BitVec.ofNat 32 x.timeout.count)

/-- Part ALIGNMENT: the marks, the correlators, the queue. -/
def alignmentItems (s : State) : List (List Byte) :=
  be32 s.align.spanMark :: s.align.copperMark.cells.map be32 ++ s.align.corrs.cells.map correlatorItem ++
    s.align.queue.map fun e => [nat8 (trunkOf e.circuit).val, nat8 (channelOf e.circuit)]

/-- The item of a held move slot in part COORDINATION (R167). -/
def moveItem (s : State) (m : MoveId) : List Byte :=
  (s.move? m).elim [] fun v => nat8 m.val :: v.request.elim [0, 0] fun q => [q.kind.code, nat8 q.tries]

/-- Part COORDINATION. -/
def coordinationItems (s : State) : List (List Byte) :=
  [nat8 s.link.outQ.length, nat8 s.link.inQ.length, flags [s.link.holdOff, s.span.peerHoldOff], nat8 s.params.preset,
    nat8 s.params.marks.1, nat8 s.params.marks.2] :: s.heldMoves.map (moveItem s)

/-- Part CAUSES. -/
def causesItem (s : State) : List Byte :=
  causeOctets s.mgmt.causes ++ causeOctets s.mgmt.enables ++ [boolOctet s.mgmt.attention, nat8 (topCause s.mgmt.hot)]

/-- The items of a part of STATUS; none for a name outside the five. -/
def statusItems (s : State) (part : Byte) : Option (List (List Byte)) :=
  match part.toNat with
  | 1 => some [deviceItem s]
  | 2 => some [spanItem s]
  | 3 => some (alignmentItems s)
  | 4 => some (coordinationItems s)
  | 5 => some [causesItem s]
  | _ => none

/-! Counters (R181) -/

/-- The counters of a group; none for a name outside the three. -/
def counterGroup (s : State) (group : Byte) : Option (List Word16) :=
  match group.toNat with
  | 1 => some [s.span.errored, s.span.slips, s.link.answersDropped, s.link.inboundDrops, s.link.stale,
      s.mgmt.slotDiscards, s.mgmt.spanDiscards]
  | 2 => some (s.sw.cells.map PortRx.slips)
  | 3 => some (s.line.cells.map PortRx.slips)
  | _ => none

/-- Every counter of a group is set to 0. -/
def clearGroup (group : Byte) (s : State) : State :=
  match group.toNat with
  | 1 =>
    { s with
      span := { s.span with errored := 0, slips := 0 }
      link := { s.link with answersDropped := 0, inboundDrops := 0, stale := 0 }
      mgmt := { s.mgmt with slotDiscards := 0, spanDiscards := 0 } }
  | 2 => { s with sw := s.sw.map fun r => { r with slips := 0 } }
  | 3 => { s with line := s.line.map fun r => { r with slips := 0 } }
  | _ => s

end Sys2Proof.Machine
end

