-- ==== Sys2Proof/Machine/Alignment.lean ====
section
/-! DEFINITION. The alignment unit: reads of the history store, grants, windows, confirmation, quiet test, slips and
marks (06). -/
namespace Sys2Proof.Machine

/-! The history store (R111, R113) -/

/-- The row of a frame. -/
def rowIndex (f : Frame) : Fin 512 := ⟨f.toNat % 512, Nat.mod_lt _ (by decide)⟩

/-- The channel of a circuit as a place in a frame. -/
def channelPos (c : CircuitId) : Fin 32 := ⟨channelOf c, by unfold channelOf; split <;> omega⟩

/-- The octet of a path of circuit `c` delivered in frame `f` (R113). -/
def histOctet (s : State) (c : CircuitId) (p : Path) (f : Frame) : Byte :=
  let row := s.align.history.get (rowIndex f)
  match p with
  | .copper => (row.copper.get (trunkOf c)).get (channelPos c)
  | .span => (s.info c).slot.elim 0xFF row.span.get

/-- `n` octets of a path from frame `f` on. -/
def histOctets (s : State) (c : CircuitId) (p : Path) (f : Frame) (n : Nat) : List Byte :=
  (List.range n).map fun i => histOctet s c p (f + BitVec.ofNat 32 i)

/-- Writes the row of the frame in course: what every line port store and the span store delivered in it (R111). -/
def writeHistory (s : State) : State :=
  let row : HistRow := { copper := s.line.map PortRx.delivered, span := s.span.delivered }
  s.modAlign fun a => { a with history := a.history.set (rowIndex s.now) row }

/-- The number of distinct values of a list of octets. -/
def distinctOctets (l : List Byte) : Nat := l.eraseDups.length

/-! Grants (R115, R116) -/

/-- One grant: the head of the queue, unless it joined in this frame, takes the lowest-numbered correlator that was free
before this frame. -/
def grantCorrelator (s : State) : State :=
  match s.align.queue with
  | [] => s
  | e :: rest =>
    if e.fresh then s
    else match s.align.corrs.first? fun k => k.rec?.isNone && !k.justFreed, (s.circ e.circuit).dir with
      | some i, some d =>
        s.modAlign fun a =>
          { a with
            queue := rest
            corrs := a.corrs.set i
              { rec? := some
                  { circuit := e.circuit, dir := d, oldDepth := (s.circ e.circuit).depth d.oldPath,
                    window := s.params.window, distinct := s.params.distinct, e0 := s.now, next := 1, cand := none,
                    noneStreak := 0, timeout := .counting 0 }
                justFreed := false } }
      | _, _ => s

/-! Windows (R118 to R121) -/

/-- The end frame of the next window. -/
def Measure.endFrame (x : Measure) : Frame := x.e0 + BitVec.ofNat 32 ((x.next - 1) * x.window)

/-- Frame `f` lies at or after a mark, as judged in frame `now` (R112, log 25). -/
def atOrAfterMark (mark now f : Frame) : Bool :=
  let age := (now - mark).toNat
  (decide (512 ≤ age) && decide (age < 0xFFFFFFF0)) || !(f - mark).msb

/-- The mark of a path of circuit `c`. -/
def markOf (s : State) (c : CircuitId) : Path → Frame
  | .copper => s.align.copperMark.get (trunkOf c)
  | .span => s.align.spanMark

/-- The first frame a window reads on the old path. -/
def Measure.oldFirst (x : Measure) : Frame := x.endFrame - BitVec.ofNat 32 x.window + 1 - x.oldDepth.setWidth 32

/-- The first frame a window reads on the new path, that of lag -255. -/
def Measure.newFirst (x : Measure) : Frame := x.endFrame - BitVec.ofNat 32 x.window - 254

/-- The result of one window. -/
inductive WindowResult
  | passed
  | quiet
  | none
  | unique (lag : Int)
  | multi
  deriving DecidableEq, Repr

/-- The lags from -255 to +32 at which the new stream repeats the old one; `new` begins at lag -255 (R121). -/
def matchingLags (old new : List Byte) : List Int :=
  ((List.range 288).filter fun j => (new.drop j).take old.length = old).map fun j => Int.ofNat j - 255

/-- The evaluation of a measurement's next window (R119 to R121). -/
def Measure.evaluate (s : State) (x : Measure) : WindowResult :=
  let now := s.now
  if !(atOrAfterMark (markOf s x.circuit x.dir.oldPath) now x.oldFirst
      && atOrAfterMark (markOf s x.circuit x.dir.newPath) now x.newFirst) then .passed
  else
    let old := histOctets s x.circuit x.dir.oldPath x.oldFirst x.window
    if distinctOctets old < x.distinct then .quiet
    else match matchingLags old (histOctets s x.circuit x.dir.newPath x.newFirst (x.window + 287)) with
      | [] => .none
      | [l] => .unique l
      | _ => .multi

/-- Depth and replay of a confirmed lag (R124). -/
def resultOf (lag : Int) : AlignResult :=
  if lag ≤ 0 then { lag := lag, depth := BitVec.ofInt 8 (-lag), replay := 0 }
  else { lag := lag, depth := 0, replay := lag.toNat }

/-- A confirmation: correlator freed, ALIGNED with its result, and the wait for its roll unless one is due (R91, R122). -/
def confirmLag (c : CircuitId) (lag : Int) (s : State) : State :=
  match (s.circ c).moveSlot with
  | none => s
  | some m =>
    let due := (s.move? m).any fun v => v.rollDue.isSome
    let t := (setMoveState c .aligned (leaveAlign c s)).modMove m fun w => { w with result := some (resultOf lag) }
    if due then t else awaitRoll m t

/-- A circuit's measurement fails its move with a fault; the correlator is freed (R98, R117, R123). -/
def failMeasured (c : CircuitId) (f : FaultCode) (s : State) : State :=
  match (s.circ c).moveSlot with
  | none => leaveAlign c s
  | some m => failHitless m f s

/-- Changes the measurement record of a correlator. -/
def State.modCorr (s : State) (i : CorrId) (f : Measure → Measure) : State :=
  s.modAlign fun a => { a with corrs := a.corrs.modify i fun k => { k with rec? := k.rec?.map f } }

/-- The result of a window acts on the measurement record (R122, R123). -/
def applyWindow (i : CorrId) (x : Measure) (r : WindowResult) (s : State) : State :=
  let t := s.modCorr i fun y => { y with next := y.next + 1 }
  match r with
  | .passed | .quiet => t
  | .multi => t.modCorr i fun y => { y with cand := none, noneStreak := 0 }
  | .none =>
    if x.noneStreak + 1 = 8 then failMeasured x.circuit .noMatch t
    else t.modCorr i fun y => { y with cand := none, noneStreak := y.noneStreak + 1 }
  | .unique l =>
    if x.cand = some l then confirmLag x.circuit l t
    else t.modCorr i fun y => { y with cand := some l, noneStreak := 0 }

/-- The next window of a correlator is evaluated in its end frame plus 32 (R118). -/
def evaluateWindow (i : CorrId) (s : State) : State :=
  match (s.align.corrs.get i).rec? with
  | none => s
  | some x => if s.now = x.endFrame + 32 then applyWindow i x (x.evaluate s) s else s

/-- The alignment timeout (R117). -/
def timeOutMeasurement (i : CorrId) (s : State) : State :=
  match (s.align.corrs.get i).rec? with
  | none => s
  | some x => if x.timeout.isDue then failMeasured x.circuit .alignTimeout s else s

/-! Quiet test and roll (R92, R93, R126) -/

/-- The boundary of the frame in course is quiet for the move: the W octets of the old stream before it hold fewer than A
distinct values (R126). W and A are the parameters as they stand when the test is made, changed or not in the frame of the
boundary itself (log 37). -/
def quietBoundary (s : State) (v : Move) : Bool :=
  let d := (s.circ v.circuit).depth v.dir.oldPath
  distinctOctets (histOctets s v.circuit v.dir.oldPath (s.now - BitVec.ofNat 32 s.params.window - d.setWidth 32)
    s.params.window) < s.params.distinct

/-- A rescue roll is due; from the frame in which it is given it overrides the wait for a quiet window (R105). -/
def Move.rescueGiven (v : Move) : Bool := v.rollDue.any fun d => d.kind = .rescue

/-- The quiet test of slot `m` at a multiframe boundary after the entry to ROLL_PENDING, once in the frame, unless a rescue
roll is due (R105, R126). -/
def testQuiet (m : MoveId) (s : State) : State :=
  match s.move? m with
  | none => s
  | some v =>
    if (s.circ v.circuit).state = .rollPending && atBoundary s.now && !v.tested && !v.rescueGiven then
      if quietBoundary s v then makeRoll m .hitless s else s.modMove m fun w => { w with tested := true }
    else s

/-- The roll due in the frame in course is made (R93). An idle roll made at a quiet boundary from ROLL_PENDING is of
kind HITLESS (R97). -/
def makeDueRoll (m : MoveId) (s : State) : State :=
  match s.move? m with
  | none => s
  | some v =>
    match v.rollDue with
    | none => s
    | some d =>
      if d.frame = s.now then
        if d.kind = .idleRoll && (s.circ v.circuit).state = .rollPending && !v.tested && quietBoundary s v then
          makeRoll m .hitless s
        else makeRoll m d.kind s
      else s

/-! Slips (R112, R127 to R129) -/

/-- A slip in frame `f` restarts the measurement of circuit `c`, if it is measured (R128). -/
def restartMeasure (c : CircuitId) (f : Frame) (s : State) : State :=
  s.modAlign fun a =>
    { a with corrs := a.corrs.map fun k =>
        { k with rec? := k.rec?.map fun x =>
            if x.circuit = c then
              { x with e0 := f + 1, next := 1, cand := none, noneStreak := 0, window := s.params.window,
                       distinct := s.params.distinct }
            else x } }

/-- A slip in frame `f` as it acts on the circuit of slot `m` (R127). -/
def slipMove (f : Frame) (m : MoveId) (s : State) : State :=
  match s.move? m with
  | none => s
  | some v =>
    match (s.circ v.circuit).state with
    | .bridged => restartMeasure v.circuit f s
    | .aligned | .rollPending => returnToBridged m s
    | _ => s

/-- A port slip on Lk in frame `f`: the copper mark moves, and every circuit of trunk `k` is involved, in slot order. -/
def copperSlip (k : TrunkId) (f : Frame) (s : State) : State :=
  let t := s.modAlign fun a => { a with copperMark := a.copperMark.set k f }
  forEach (s.moves.slots.indices fun x => x.any fun v => trunkOf v.circuit = k) (slipMove f) t

/-- A span slip in frame `f`: the span mark moves, and every circuit is involved, in slot order. -/
def spanSlip (f : Frame) (s : State) : State :=
  forEach s.heldMoves (slipMove f) (s.modAlign fun a => { a with spanMark := f })

end Sys2Proof.Machine
end

