-- ==== Sys2Proof/Machine/Ports.lean ====
section
/-! DEFINITION. The receive side of the E1 ports: alignment, alarms, availability, elastic stores, codes (R1 to R8). -/
namespace Sys2Proof.Machine

/-! The hunt for an alignment word (R1, R26) -/

/-- What a hunt over the bits received so far has found. -/
inductive Hunt
  | searching (rest : List Bool)
  | confirming (rest : List Bool)
  | found (rest : List Bool)

/-- The check of the word at the head of a string: right, wrong, or not yet complete. -/
def wordCheck (word l : List Bool) : Option Bool :=
  if (l.take word.length).length < word.length then none else some (l.take word.length = word)

/-- Hunts for the word at every bit position, checks it twice at distance `period`, and resumes at the bit after the
candidate's first when a check fails. Found: the rest begins with the whole frame of the second check, whose first bit
stands `lead` bits before its word. That frame, which carries the second confirming word, is the first frame received in
ALIGNED, and ALIGNED is entered when it is whole (log 36). -/
def hunt (word : List Bool) (period lead frameBits : Nat) : List Bool → Hunt
  | [] => .searching []
  | b :: l =>
    match wordCheck word (b :: l), wordCheck word ((b :: l).drop period), wordCheck word ((b :: l).drop (2 * period)) with
    | none, _, _ => .searching (b :: l)
    | some false, _, _ => hunt word period lead frameBits l
    | some true, some false, _ => hunt word period lead frameBits l
    | some true, some true, some false => hunt word period lead frameBits l
    | some true, some true, some true =>
      if ((b :: l).drop (2 * period - lead)).length < frameBits then .confirming (b :: l)
      else .found ((b :: l).drop (2 * period - lead))
    | some true, _, _ => .confirming (b :: l)

/-- The seven-bit alignment word of an E1 frame (01, 1.1). -/
def portWord : List Bool := [false, false, true, true, false, true, true]

/-! Parts of the judgement of one frame -/

/-- One 256-bit block judged for AIS (R3). -/
def PortRx.judgeAis (bits : List Bool) (r : PortRx) : PortRx :=
  let low := decide (bits.countP (fun b => !b) ≤ 2)
  { r with ais := if low then r.ais || r.aisRun else false, aisRun := low }

/-- The A bit of one non-alignment octet (R5). -/
def PortRx.judgeFar (o : Byte) (r : PortRx) : PortRx :=
  if o.getMsbD 2 then
    let n := r.farOnes + 1
    { r with farOnes := n, farZeros := 0, far := r.far || decide (3 ≤ n) }
  else
    let n := r.farZeros + 1
    { r with farZeros := n, farOnes := 0, far := r.far && decide (n < 3) }

/-- The multiframe alignment pattern: upper nibble 0000 (R2). -/
def mfPattern (o : Byte) : Bool := upperCode o = 0

/-- The first candidate among the octets that follow a failed one: the frames that carry the frame alignment octet stand
at even distances from it (R2). -/
def mfRescan : List Byte → MfState
  | _ :: b :: l => if mfPattern b then .confirm l else mfRescan l
  | _ => .search

/-- The multiframe alignment state after slot 16 of one frame (R2). -/
def mfAdvance (carriesWord : Bool) (o : Byte) : MfState → MfState
  | .search => if carriesWord && mfPattern o then .confirm [] else .search
  | .confirm seen =>
    let all := seen ++ [o]
    if all.length < 16 then .confirm all
    else if mfPattern o then .aligned 0 0 []
    else mfRescan all
  | .aligned pos wrong codes =>
    if pos < 15 then .aligned (pos + 1) wrong (codes ++ [o])
    else if mfPattern o then .aligned 0 0 []
    else if wrong = 0 then .aligned 0 1 []
    else .search

/-- The position of the frame just judged in its multiframe (R6). -/
def MfState.position : MfState → Option Nat
  | .aligned pos _ _ => some pos
  | _ => none

/-- The fifteen slot 16 octets of a multiframe that has just ended (R8). -/
def MfState.complete : MfState → Option (List Byte)
  | .aligned 15 _ codes => some codes
  | _ => none

/-! Availability (R4) -/

/-- A run in progress on the forward records of a trunk is interrupted (R61). -/
def interruptForward (k : TrunkId) (s : State) : State :=
  { s with circuits := s.circuits.mapIdx fun c r => if trunkOf c = k then { r with fwd := r.fwd.interrupt } else r }

/-- A run in progress on the copper backward records of a trunk is interrupted (R61). -/
def interruptCopper (k : TrunkId) (s : State) : State :=
  { s with circuits := s.circuits.mapIdx fun c r => if trunkOf c = k then { r with cuBack := r.cuBack.interrupt } else r }

/-- The settle timer of a trunk in ACQUIRING is set to 0 (R18). -/
def restartSettle (k : TrunkId) (s : State) : State :=
  s.modTrunk k fun t => if t.insertion = .acquiring then { t with settle := 0 } else t

/-- The reference port became unavailable: qualification from 0, and holdover (R13). -/
def loseReference (s : State) : State := { s with timing := { s.timing with qual := 0, holdover := true } }

/-- The available flag of a port has fallen. -/
def availableFell (p : PortId) (s : State) : State :=
  let t := restartSettle (portTrunk p) (if portSilent s p then s else raise .portAlarm s)
  match p with
  | .sw k => interruptForward k (if t.timing.refPort = k then loseReference t else t)
  | .line k =>
    let t := interruptCopper k t
    if (t.trunk k).function = .spanOnly then t else copperLostMoves k (conditionCopper k t)

/-- The available flag of a port has risen. -/
def availableRose (p : PortId) (s : State) : State :=
  match p with
  | .sw _ => s
  | .line k => if (s.trunk k).function = .spanOnly then s else uncondCopper k s

/-- The available flag of a port judged anew and handed on when it changes. -/
def refreshAvailable (p : PortId) (s : State) : State :=
  let a := (s.port p).judgeAvailable
  if a = (s.port p).available then s
  else
    let t := s.modPort p fun r => { r with available := a }
    if a then availableRose p t else availableFell p t

/-! Elastic store (R6, R7) -/

/-- One slip of a port store counted, with its cause (R7). -/
def countPortSlip (p : PortId) (s : State) : State :=
  let t := s.modPort p fun r => { r with slips := bump r.slips }
  if portSilent s p then t else raise .slip t

/-- Writes a received frame; a full store deletes its oldest frame. The alignment unit is handed that slip in the site
frame that reads next, to which it belongs (log 5). -/
def writePort (p : PortId) (f : StoredFrame) (s : State) : State :=
  if (s.port p).store.length < 2 then s.modPort p fun r => { r with store := r.store ++ [f] }
  else
    let t := countPortSlip p (s.modPort p fun r => { r with store := r.store.drop 1 ++ [f] })
    match p with
    | .sw _ => t
    | .line k => t.modAlign fun a => { a with copperDeleted := a.copperDeleted.set k true }

/-- A read that finds the store of a port empty is a slip of the frame in course (R7). -/
def repeatPort (p : PortId) (s : State) : State :=
  let t := countPortSlip p (s.modPort p fun r => { r with delivered := r.lastRead })
  match p with
  | .sw _ => t
  | .line k => copperSlip k s.now t

/-- Reads one frame in the site frame in course. Out of ALIGNED, FF is delivered and the store is left as it is until the
next recentring (log 40). -/
def readPort (p : PortId) (s : State) : State :=
  let r := s.port p
  if r.align != .aligned then s.modPort p fun r => { r with delivered := ffFrame }
  else match r.store with
    | [] => repeatPort p s
    | f :: rest => s.modPort p fun r => { r with store := rest, lastRead := f.octets, delivered := f.octets }

/-! Codes (R8) -/

/-- The codes of a complete multiframe as pairs of channel and code. -/
def multiframeCodes (l : List Byte) : List (Nat × Code) :=
  (List.range 15).flatMap fun i =>
    [(i + 1, upperCode (octetAt l i)), (i + 17, lowerCode (octetAt l i))]

/-- Hands the codes of a complete multiframe to the signalling unit. -/
def handCodes (p : PortId) (l : List Byte) (s : State) : State :=
  match p with
  | .sw k => forEach (multiframeCodes l) (fun x t => (circuitAt k x.1).elim t fun c => observeForward c x.2 t) s
  | .line k =>
    if (s.trunk k).function = .spanOnly then s
    else forEach (multiframeCodes l) (fun x t => (circuitAt k x.1).elim t fun c => observeCopper c x.2 t) s

/-! The stream (R1) -/

/-- A port enters ALIGNED: runs and counts from 0, the store recentred, the mark of Lk's copper moved (R1, R5, R6, R112). -/
def enterAligned (p : PortId) (rest : List Bool) (s : State) : State :=
  let t := s.modPort p fun r =>
    { r with
      align := .aligned, bits := rest, carriesWord := true, wrong := 0, mf := .search, farOnes := 0, farZeros := 0,
      store := [{ octets := ffFrame, mf := none }] }
  match p with
  | .sw _ => t
  | .line k => t.modAlign fun a => { a with copperMark := a.copperMark.set k (s.now + 2) }

/-- A port leaves ALIGNED for SEARCH, its hunt to begin with `rest` (R1, R2, R5). -/
def leaveAligned (p : PortId) (rest : List Bool) (s : State) : State :=
  refreshAvailable p (s.modPort p fun r => { r with align := .search, bits := rest, mf := .search, far := false })

/-- A frame from its octets. -/
def frameOf (l : List Byte) : E1Frame := Table.ofFn fun i => octetAt l i.val

/-- The receive side of a port after the judgement of one aligned frame. -/
def PortRx.judgeFrame (octets : List Byte) (blocks : Bool) (r : PortRx) : PortRx :=
  let right := octetAt octets 0 &&& 0x7F = 0x1B
  let r1 := if r.carriesWord then { r with wrong := if right then 0 else r.wrong + 1 } else r.judgeFar (octetAt octets 0)
  let r2 := if blocks then r1.judgeAis (octetsBits octets) else r1
  { r2 with mf := mfAdvance r.carriesWord (octetAt octets 16) r.mf, carriesWord := !r.carriesWord }

/-- One frame received in ALIGNED. The codes of a multiframe that ends while the port is not available are not taken: the
signalling unit holds its codes through the loss of a path (R62, R70, log 35). -/
def portFrame (p : PortId) (blocks : Bool) (octets : List Byte) (s : State) : State :=
  let r := (s.port p).judgeFrame octets blocks
  if r.wrong = 3 then
    leaveAligned p ((octetsBits octets).drop 8 ++ (s.port p).bits) (s.modPort p fun q =>
      { q with wrong := 3, ais := r.ais, aisRun := r.aisRun })
  else
    let t := writePort p { octets := frameOf octets, mf := r.mf.position } (refreshAvailable p (s.modPort p fun _ => r))
    match r.mf.complete with
    | some l => if (t.port p).available then handCodes p l t else t
    | none => t

/-- Works through the bits received: frames while ALIGNED, the hunt otherwise. -/
def portLoop (p : PortId) (blocks : Bool) : Nat → State → State
  | 0, s => s
  | n + 1, s =>
    let r := s.port p
    if r.align = .aligned then
      if (r.bits.take 256).length < 256 then s
      else
        portLoop p blocks n
          (portFrame p blocks (bitsOctets 32 (r.bits.take 256)) (s.modPort p fun q => { q with bits := q.bits.drop 256 }))
    else
      match hunt portWord 512 1 256 r.bits with
      | .searching rest => s.modPort p fun q => { q with align := .search, bits := rest }
      | .confirming rest => s.modPort p fun q => { q with align := .confirm, bits := rest }
      | .found rest => portLoop p blocks n (enterAligned p rest s)

/-- The next octets of a port's received stream (R1 to R8). The blocks of AIS are the frames of a port that is ALIGNED
when they arrive, and the octets themselves otherwise (log 7). -/
def receivePort (p : PortId) (octets : List Byte) (s : State) : State :=
  if (s.port p).los then s
  else
    let blocks : Bool := (s.port p).align = .aligned
    let bits := octetsBits octets
    let t := s.modPort p fun r =>
      let q := if blocks then r else r.judgeAis bits
      { q with bits := q.bits ++ bits }
    portLoop p blocks ((t.port p).bits.length + 1) (refreshAvailable p t)

/-- The signal-present input of a port evaluated (R3). -/
def evaluatePortLos (p : PortId) (noSignal : Bool) (s : State) : State :=
  if noSignal then leaveAligned p [] (s.modPort p fun r => { r with los := true, ais := false, aisRun := false })
  else s.modPort p fun r => { r with los := false }

end Sys2Proof.Machine
end

