-- ==== Sys2Proof/Machine/Proxy.lean ====
section
/-! DEFINITION. Responses of the agent and the completion of a proxy (R171, R176, R177). -/
namespace Sys2Proof.Machine

/-- What a request is answered with; `restart` marks the DONE response of RESTART (R182). -/
structure Reply where
  status : Byte
  body : List Byte
  restart : Bool := false
  deriving DecidableEq, Repr

/-- REFUSED with a reason; the body repeats the request's code alone (10.7). -/
def refusal (code : Byte) (r : Reason) : Reply := { status := r.status, body := [code] }

/-- DONE with the octets after the code. -/
def done (code : Byte) (rest : List Byte) : Reply := { status := statusDone, body := code :: rest }

/-- Offers the RESPONSE cell of a request to the queue of the entry it came on (R171). -/
def respond (e : Entry) (tag target : Byte) (r : Reply) (s : State) : State :=
  offerCell e
    { cell := { kind := kindResponse, tag := tag, target := target, status := r.status, body := r.body },
      restart := r.restart } s

/-- An outstanding proxy completes with a status and a body (R176); in POST mode PROXY_DONE is raised (R177). -/
def completeProxy (status : Byte) (body : List Byte) (s : State) : State :=
  match s.mgmt.proxy with
  | none => s
  | some p =>
    let t := s.modMgmt fun g => { g with proxy := none }
    let cell (kind : Byte) : OutCell :=
      { cell := { kind := kind, tag := p.stationTag, target := targetPeer, status := status, body := body },
        restart := false }
    match p.mode with
    | .wait => offerSlotCell (cell kindResponse) t
    | .post => raise .proxyDone (offerSlotCell (cell kindProxyResult) t)

/-- An outstanding proxy is refused at this end with a reason (R176). -/
def refuseProxy (r : Reason) (s : State) : State :=
  match s.mgmt.proxy with
  | none => s
  | some p => completeProxy r.status [p.code] s

end Sys2Proof.Machine
end

