-- ==== Sys2Proof/Machine/SpanPort.lean ====
section
/-! DEFINITION. The receive side of the span: alignment, frame check, degrade, elastic store, peer status, and the span
usable flag with all that acts on it (02). -/
namespace Sys2Proof.Machine

/-! Span usable (R40, R41) -/

/-- Both notice queues are emptied at the fall of the flag; the fill of 0 clears hold-off (R165). -/
def emptyQueues (s : State) : State := judgeHoldOff (s.modLink fun l => { l with outQ := [], inQ := [] })

/-- The span usable flag has risen. -/
def usableRose (s : State) : State := startRestore (raise .spanUp s)

/-- The span usable flag has fallen: circuits on the span are conditioned, every circuit in flight falls back, the queues
are emptied, and an outstanding proxy completes. -/
def usableFell (s : State) : State :=
  refuseProxy .peerAbsent (emptyQueues (fallBack (conditionSpan (raise .spanDown s))))

/-- The span usable flag judged anew and handed on when it changes. -/
def refreshUsable (s : State) : State :=
  let u := s.span.judgeUsable
  if u = s.span.usable then s
  else
    let t := s.modSpan fun r => { r with usable := u }
    if u then usableRose t else usableFell t

/-! Management octets (R170) -/

/-- A cell discarded, unless a RESTART has been taken (R182). -/
def countUnlessRestart (e : Entry) (s : State) : State := if s.mgmt.restart = .idle then countDiscard e s else s

/-- One piece of the cell of numbers 8q to 8q + 7 joins what is assembled; `lacking` when it is not the next piece. -/
def addPiece (a : SpanAsm) (r : Nat) (spoiled : Bool) (piece : List Byte) (s : State) : State :=
  let a := { a with next := r + 1, octets := a.octets ++ piece, bad := a.bad || spoiled || r != a.next }
  s.modMgmt fun g =>
    if r = 7 then { g with spanAsm := none, spanReady := g.spanReady ++ [{ octets := a.octets, bad := a.bad }] }
    else { g with spanAsm := some a }

/-- The management octets of the received frame numbered `num` (R170, log 33). A cell all eight of whose numbers a jump
skips has no piece, and nothing is counted for it (log 39). -/
def placePiece (num : Word16) (spoiled : Bool) (piece : List Byte) (s : State) : State :=
  let q := num.toNat / 8
  let r := num.toNat % 8
  let fresh : SpanAsm := { q := q, next := 0, octets := [], bad := false }
  if !s.mgmt.spanSync && r != 0 then s
  else
    let t := s.modMgmt fun g => { g with spanSync := true }
    match s.mgmt.spanAsm with
    | none => addPiece fresh r spoiled piece t
    | some a => if a.q = q then addPiece a r spoiled piece t else addPiece fresh r spoiled piece (countUnlessRestart .span t)

/-! Loss of alignment (R26 to R28, R37 to R39, R61, R170) -/

/-- The span receive leaves ALIGNED, or LOS appears; the hunt is to begin with `rest`. -/
def leaveSpan (rest : List Bool) (s : State) : State :=
  let t := s.modSpan fun r =>
    { r with
      align := .search, bits := rest, rxNumber := none, alignedThroughout := false, peerState := none, peerEnd := none,
      peerHoldOff := false, peerFarFault := false, present := false, runningRun := 0, otherRun := 0, sameRun := 0,
      differRun := 0 }
  let t := if s.span.present then raise .peerLost t else t
  let t : State := { t with circuits := t.circuits.map fun (r : Circuit) => { r with spBack := r.spBack.interrupt, spLast := none } }
  refreshUsable (t.modMgmt fun g => { g with spanAsm := none, spanSync := false })

/-- The signal-present input of the optical module evaluated (R27). -/
def evaluateSpanLos (noSignal : Bool) (s : State) : State :=
  if noSignal then leaveSpan [] (s.modSpan fun r => { r with los := true }) else s.modSpan fun r => { r with los := false }

/-! Elastic store (R34, R35) -/

/-- One slip of the span store counted, with its cause (R35). -/
def countSpanSlip (s : State) : State := raise .slip (s.modSpan fun r => { r with slips := bump r.slips })

/-- Writes a received frame's channel octets; a full store deletes its oldest frame. The alignment unit is handed that slip
in the site frame that reads next, to which it belongs (log 5). -/
def writeSpan (o : SpanOctets) (s : State) : State :=
  if s.span.store.length < 8 then s.modSpan fun r => { r with store := r.store ++ [o] }
  else
    (countSpanSlip (s.modSpan fun r => { r with store := r.store.drop 1 ++ [o] })).modAlign fun a =>
      { a with spanDeleted := true }

/-- Reads one frame in the site frame in course. Out of ALIGNED, FF is delivered and the store is left as it is: the frames
not yet read stay in it until the next recentring, and its fill is what STATUS reports (R42). That they stay is the model's
choice (log 40). -/
def readSpan (s : State) : State :=
  if s.span.align != .aligned then s.modSpan fun r => { r with delivered := ffSpan }
  else match s.span.store with
    | [] => spanSlip s.now (countSpanSlip (s.modSpan fun r => { r with delivered := r.lastRead }))
    | o :: rest => s.modSpan fun r => { r with store := rest, lastRead := o, delivered := o }

/-! One received frame (R28 to R32, R37 to R40, R183) -/

/-- The span alignment word (R26). -/
def spanWord : List Byte := [0x3C, 0xA5, 0x5A, 0xC3]

/-- The state field of a peer status; 11 is reported as HOLD (R183). -/
def peerStateOf (o : Byte) : DevState :=
  match (o.extractLsb' 6 2).toNat with
  | 0 => .starting
  | 1 => .running
  | _ => .hold

/-- The END field of a peer status; 11 counts as NONE (R183). -/
def peerEndOf (o : Byte) : Option EndId :=
  match (o.extractLsb' 4 2).toNat with
  | 1 => some .a
  | 2 => some .b
  | _ => none

/-- The frame's CRC fails (R29). -/
def spanErrored (l : List Byte) : Bool :=
  crc16 ((l.drop 4).take 555) != word16 (octetAt l 559) (octetAt l 560)

/-- An errored frame's account: counts, degrade, and the number advanced by one (R28, R29, R32). -/
def takeErrored (s : State) : State :=
  refreshUsable (s.modSpan fun r =>
    { r.countErrored s.params.degrade with rxNumber := r.rxNumber.map fun n => n + 1 })

/-- A sound frame's number and peer status (R28, R37 to R39). -/
def takeStatus (number : Word16) (status : Byte) (s : State) : State :=
  let t := s.modSpan fun r =>
    let q := { r with
      rxNumber := some number, peerState := some (peerStateOf status), peerEnd := some (peerEndOf status),
      peerHoldOff := status.getLsbD 3, peerFarFault := status.getLsbD 2 }
    let same := (strapEnd s.dev.straps).isSome && strapEnd s.dev.straps = peerEndOf status
    (q.judgePresence (peerStateOf status = .running)).judgeConflict same
  let t := if s.span.present && !t.span.present then raise .peerLost t else t
  let t := if !s.span.conflict && t.span.conflict then raise .endConflict t else t
  refreshUsable t

/-- One notice position of a sound frame: queued, or dropped and counted at a full queue (R155). -/
def takePosition (l : List Byte) (s : State) : State :=
  match decodeNotice l with
  | none => s
  | some n =>
    if s.link.inQ.length < inboundSize then judgeHoldOff (s.modLink fun k => { k with inQ := k.inQ ++ [n] })
    else raise .noticeLoss (s.modLink fun k => { k with inboundDrops := bump k.inboundDrops })

/-- The 32 codes of the signalling section of the frame numbered `num` as pairs of slot and code (R31). -/
def sectionCodes (num : Word16) (l : List Byte) : List (SlotId × Code) :=
  (List.range 16).flatMap fun i =>
    let base := 32 * (num.toNat % 16) + 2 * i
    ((slotArg (BitVec.ofNat 16 base)).map fun sl => (sl, upperCode (octetAt l (31 + i)))).toList ++
      ((slotArg (BitVec.ofNat 16 (base + 1))).map fun sl => (sl, lowerCode (octetAt l (31 + i)))).toList

/-- Hands the codes of the signalling section to the circuits that hold their slots (R31). -/
def handSpanCodes (num : Word16) (l : List Byte) (s : State) : State :=
  forEach (sectionCodes num l) (fun x t => (t.map.directory.get x.1).elim t fun c => observeSpan c num x.2 t) s

/-- One received frame of ALIGNED, its word checked (R30). -/
def takeSpanFrame (l : List Byte) (s : State) : State :=
  let bad := spanErrored l
  let t :=
    if bad then takeErrored s
    else
      let t := takeStatus (word16 (octetAt l 4) (octetAt l 5)) (octetAt l 6) s
      if t.span.usable then takePosition ((l.drop 23).take 8) (takePosition ((l.drop 15).take 8) t) else t
  let t := match t.span.rxNumber with
    | some num => handSpanCodes num l t
    | none => t
  let t := writeSpan (Table.ofFn fun i => octetAt l (47 + i.val)) t
  match t.span.rxNumber with
  | some num => placePiece num bad ((l.drop 7).take 8) t
  | none => t

/-- One frame's worth of stream while ALIGNED (R26). -/
def spanFrame (l : List Byte) (s : State) : State :=
  if l.take 4 = spanWord then takeSpanFrame l (s.modSpan fun r => { r with wrong := 0 })
  else if s.span.wrong = 3 then leaveSpan ((octetsBits l).drop 32 ++ s.span.bits) s
  else takeSpanFrame l (s.modSpan fun r => { r with wrong := r.wrong + 1 })

/-- The span receive enters ALIGNED: the store recentred, the span mark moved (R26, R34, R112). -/
def enterSpan (rest : List Bool) (s : State) : State :=
  (s.modSpan fun r =>
    { r with align := .aligned, bits := rest, wrong := 0, store := List.replicate 4 ffSpan }).modAlign fun a =>
      { a with spanMark := s.now + 5 }

/-- Works through the bits received: frames while ALIGNED, the hunt otherwise. -/
def spanLoop : Nat → State → State
  | 0, s => s
  | n + 1, s =>
    if s.span.align = .aligned then
      if (s.span.bits.take 4488).length < 4488 then s
      else
        spanLoop n (spanFrame (bitsOctets 561 (s.span.bits.take 4488)) (s.modSpan fun r => { r with bits := r.bits.drop 4488 }))
    else
      match hunt (octetsBits spanWord) 4488 0 4488 s.span.bits with
      | .searching rest => s.modSpan fun r => { r with align := .search, bits := rest }
      | .confirming rest => s.modSpan fun r => { r with align := .confirm, bits := rest }
      | .found rest => spanLoop n (enterSpan rest s)

/-- The next octets of the span's received stream (R26 to R31). -/
def receiveSpan (octets : List Byte) (s : State) : State :=
  if s.span.los then s
  else
    let t := s.modSpan fun r => { r with bits := r.bits ++ octetsBits octets }
    spanLoop (t.span.bits.length + 1) t

/-- The end of a degrade interval judged (R33). -/
def endDegradeInterval (s : State) : State :=
  if s.span.intervalEnd then refreshUsable (s.modSpan (SpanRx.judgeInterval s.params.degrade)) else s

end Sys2Proof.Machine
end

