-- ==== Sys2Proof/Machine/Service.lean ====
section
/-! DEFINITION. The management requests: each one's checks, effect and reply (R172), as functions of its octets (10.6). -/
namespace Sys2Proof.Machine

/-- What serving a request answers: the state after it and the reply. -/
abbrev Service := State → State × Reply

/-- Request codes (10.6). -/
def codeStatus : Byte := 0x01
def codeReadCircuits : Byte := 0x02
def codeSetCircuit : Byte := 0x03
def codeFillBlock : Byte := 0x04
def codeCommand : Byte := 0x05
def codeReadTrunk : Byte := 0x06
def codeSetTrunk : Byte := 0x07
def codeReadParameters : Byte := 0x08
def codeSetParameters : Byte := 0x09
def codePostOrder : Byte := 0x0A
def codeCancelOrder : Byte := 0x0B
def codeRemoveOrder : Byte := 0x0C
def codeReadOrders : Byte := 0x0D
def codeClearCauses : Byte := 0x0E
def codeSetEnables : Byte := 0x0F
def codeReadCounters : Byte := 0x10
def codeRestart : Byte := 0x11

/-- A request refused; a refused request changes nothing (R172). -/
def deny (code : Byte) (r : Reason) : Service := fun s => (s, refusal code r)

/-! STATUS and READ-CIRCUITS -/

/-- STATUS (R173). -/
def serveStatus (part start : Byte) : Service := fun s =>
  match statusItems s part with
  | none => deny codeStatus .outOfRange s
  | some items =>
    if items.length ≤ start.toNat then deny codeStatus .outOfRange s
    else
      let carried := fitItems (bodySize - 4) (items.drop start.toNat)
      let next := start.toNat + carried.length
      (s, done codeStatus
        ([part, if next < items.length then nat8 next else 0xFF, nat8 carried.length] ++ carried.flatten))

/-- The body of a READ-CIRCUITS response: at most two records, and the channel of the first not carried (10.4). -/
def circuitsReply (s : State) (l : List CircuitId) : Reply :=
  done codeReadCircuits
    ([(l[2]?).elim 0 (fun c => nat8 (channelOf c)), nat8 (l.take 2).length] ++ (l.take 2).flatMap (circuitRecord s))

/-- A channel number that carries a circuit. -/
def channelArg (b : Byte) : Bool := (decide (1 ≤ b.toNat ∧ b.toNat ≤ 15)) || decide (17 ≤ b.toNat ∧ b.toNat ≤ 31)

/-- The circuits of a trunk from channel `first` to channel `last`. -/
def rangeCircuits (k : TrunkId) (first last : Nat) : List CircuitId :=
  (trunkCircuits k).filter fun c => decide (first ≤ channelOf c ∧ channelOf c ≤ last)

/-- READ-CIRCUITS with a range (R56). -/
def serveReadRange (trunk first last : Byte) : Service := fun s =>
  match trunkArg trunk with
  | none => deny codeReadCircuits .outOfRange s
  | some k =>
    if channelArg first && channelArg last && decide (first.toNat ≤ last.toNat) then
      (s, circuitsReply s (rangeCircuits k first.toNat last.toNat))
    else deny codeReadCircuits .outOfRange s

/-- READ-CIRCUITS with a span slot (R57). -/
def serveReadSlot (slot : Word16) : Service := fun s =>
  match slotArg slot with
  | none => deny codeReadCircuits .outOfRange s
  | some sl => (s, circuitsReply s (s.map.directory.get sl).toList)

/-! SET-CIRCUIT and FILL-BLOCK (R46, R52, R54, R55) -/

/-- Gives circuit `c` a span slot or none, with the directory; a changed slot restarts the span backward record (R47). -/
def writeSlot (c : CircuitId) (slot : Option SlotId) (s : State) : State :=
  if (s.info c).slot = slot then s
  else
    let d := (s.info c).slot.elim s.map.directory fun old => s.map.directory.set old none
    let d := slot.elim d fun new => d.set new (some c)
    restartSpanBackward c
      { s with map := { loaded := s.map.loaded.modify c fun i => { i with slot := slot }, directory := d } }

/-- The slot operand of SET-CIRCUIT: FFFF absent; none when out of range. -/
def slotOperand (w : Word16) : Option (Option SlotId) := if w = 0xFFFF then some none else (slotArg w).map some

/-- The circuit is in HOME and holds no move slot. -/
def homeFree (s : State) (c : CircuitId) : Bool := (s.circ c).state = .home && (s.circ c).moveSlot.isNone

/-- Another circuit holds the slot. -/
def heldByOther (s : State) (c : CircuitId) (slot : Option SlotId) : Bool :=
  slot.any fun sl => (s.map.directory.get sl).any fun x => x != c

/-- SET-CIRCUIT (R52). -/
def serveSetCircuit (trunk channel : Byte) (slot : Word16) (policy rollOnCommand pin : Byte) : Service := fun s =>
  match circuitArg trunk channel, slotOperand slot, policyArg policy, boolArg rollOnCommand, boolArg pin with
  | some c, some sl, some p, some roc, some pn =>
    if (s.info c).mgmt then deny codeSetCircuit .mgmtChannel s
    else if !homeFree s c then deny codeSetCircuit .wrongState s
    else if heldByOther s c sl then deny codeSetCircuit .slotInUse s
    else
      let t := (writeSlot c sl s).modInfo c fun i => { i with policy := p, rollOnCommand := roc, pin := pn }
      (t, done codeSetCircuit (circuitRecord t c))
  | _, _, _, _, _ => deny codeSetCircuit .outOfRange s

/-- The target slot of channel position `p` in block `b`: SEQUENTIAL or INTERLEAVED with a key (R54). -/
def fillTarget (b : Fin 16) (interleaved : Bool) (key : Fin 32) (p : Nat) : SlotId :=
  ⟨32 * b.val + (if interleaved then (p ^^^ key.val) % 32 else (p + key.val) % 32), by
    have := Nat.mod_lt (p ^^^ key.val) (by decide : 0 < 32)
    have := Nat.mod_lt (p + key.val) (by decide : 0 < 32)
    have := b.isLt
    split <;> omega⟩

/-- The operands of FILL-BLOCK in range. -/
def fillOperands (trunk block ordering key policy : Byte) : Option (TrunkId × Fin 16 × Bool × Fin 32 × Policy) :=
  match trunkArg trunk, trunkArg block, boolArg ordering, policyArg policy with
  | some k, some b, some o, some p => if h : key.toNat < 32 then some (k, b, o, ⟨key.toNat, h⟩, p) else none
  | _, _, _, _ => none

/-- The circuits of a trunk that a fill gives a slot: all but the management channel (R54). -/
def fillCircuits (s : State) (k : TrunkId) : List CircuitId := (trunkCircuits k).filter fun c => !(s.info c).mgmt

/-- What a fill writes for one circuit: the policy, and the target slot unless it is the management channel (R54). -/
def fillCircuit (target : SlotId) (p : Policy) (c : CircuitId) (s : State) : State :=
  (if (s.info c).mgmt then s else writeSlot c (some target) s).modInfo c fun i => { i with policy := p }

/-- FILL-BLOCK (R54, R55). -/
def serveFillBlock (trunk block ordering key policy : Byte) : Service := fun s =>
  match fillOperands trunk block ordering key policy with
  | none => deny codeFillBlock .outOfRange s
  | some (k, b, o, ky, p) =>
    let target (c : CircuitId) : SlotId := fillTarget b o ky (channelOf c)
    let l := fillCircuits s k
    if !(l.all fun c => homeFree s c && (s.info c).slot.isNone) then deny codeFillBlock .wrongState s
    else if l.any fun c => (s.map.directory.get (target c)).isSome then deny codeFillBlock .slotInUse s
    else
      let t := forEach (trunkCircuits k) (fun c => fillCircuit (target c) p c) s
      let left := ((List.range 32).filter fun q => (circuitAt k q).all fun c => (s.info c).mgmt).map (fillTarget b o ky)
      (t, done codeFillBlock
        (nat8 left.length :: ((left.flatMap fun (sl : SlotId) => nat16 sl.val) ++ List.replicate 6 0).take 6))

/-! CIRCUIT-COMMAND (R80, R104, R107 to R110) -/

/-- The checks common to the commands: identity, management channel and, for every command but PIN and UNPIN, HOLD; then
the command on its circuit, answered with the record as it then stands or refused. -/
def serveCommand (trunk channel : Byte) (inHold : Bool) (act : CircuitId → State → Except Reason State) : Service := fun s =>
  match circuitArg trunk channel with
  | none => deny codeCommand .outOfRange s
  | some c =>
    if (s.info c).mgmt then deny codeCommand .mgmtChannel s
    else if !inHold && s.dev.devState = .hold then deny codeCommand .held s
    else match act c s with
      | .ok t => (t, done codeCommand (circuitRecord t c))
      | .error r => deny codeCommand r s

/-- MOVE and RETURN (R80). -/
def beginCommand (d : Dir) (c : CircuitId) (s : State) : Except Reason State :=
  match beginCheck s c d, s.freeMove? with
  | some r, _ => .error r
  | none, none => .error .noSlot
  | none, some m => .ok (beginMove m c d none s)

/-- ROLL (R108). -/
def rollCommand (c : CircuitId) (s : State) : Except Reason State :=
  match (s.circ c).moveSlot with
  | none => .error .wrongState
  | some m =>
    if (s.circ c).state = .aligned && (s.info c).rollOnCommand then
      .ok (if (s.move? m).any fun v => v.rollDue.isSome then s else rollDecision m s)
    else .error .wrongState

/-- RELEASE (R108). -/
def releaseCommand (c : CircuitId) (s : State) : Except Reason State :=
  match (s.circ c).moveSlot, (s.circ c).moveSlot.bind s.move? with
  | some m, some v =>
    if (s.circ c).state = .rolled && v.ownRolledNoted && v.peerRolled then
      if v.request.any fun q => q.kind = .release then .ok s
      else if v.request.isSome then .error .wrongState
      else .ok (makeRequest m .release false (s.modMove m fun w => { w with soak := .stopped }))
    else .error .wrongState
  | _, _ => .error .wrongState

/-- ABANDON (R109). -/
def abandonCommand (c : CircuitId) (s : State) : Except Reason State :=
  match (s.circ c).moveSlot with
  | none => .error .wrongState
  | some m =>
    match (s.circ c).state with
    | .home | .moved => .error .wrongState
    | .blocking => .ok (undoMove m .manual false true s)
    | .swapping => .ok (undoMove m .manual true true s)
    | .abandoning => .ok s
    | _ => .ok (failHitless m .manual s)

/-- PIN (R110). -/
def pinCommand (c : CircuitId) (s : State) : Except Reason State := .ok (s.modInfo c fun i => { i with pin := true })

/-- UNPIN: a circuit whose soak expired while pinned sends its RELEASE (R110). -/
def unpinCommand (c : CircuitId) (s : State) : Except Reason State :=
  let t := s.modInfo c fun i => { i with pin := false }
  match (s.circ c).moveSlot, (s.circ c).moveSlot.bind s.move? with
  | some m, some v =>
    if (s.circ c).state = .rolled && v.soak.isExpired && v.request.isNone then .ok (makeRequest m .release false t) else .ok t
  | _, _ => .ok t

/-- UNBLOCK (R104). -/
def unblockCommand (c : CircuitId) (s : State) : Except Reason State :=
  if (s.circ c).state.atRest && (s.circ c).moveSlot.isNone && (s.circ c).blocked then
    .ok (s.modCirc c fun r => { r with blocked := false })
  else .error .wrongState

/-! READ-TRUNK and SET-TRUNK (R15, R17 to R19, R23, R74) -/

/-- READ-TRUNK (R23). -/
def serveReadTrunk (trunk clearing : Byte) : Service := fun s =>
  match trunkArg trunk, boolArg clearing with
  | some k, some cl =>
    let t := if cl then
        (s.modPort (.sw k) fun r => { r with slips := 0 }).modPort (.line k) fun r => { r with slips := 0 }
      else s
    (t, done codeReadTrunk (trunkReport s k))
  | _, _ => deny codeReadTrunk .outOfRange s

/-- Every circuit of the trunk is at rest and holds no move slot. -/
def trunkAtRest (s : State) (k : TrunkId) : Bool :=
  (trunkCircuits k).all fun c => (s.circ c).state.atRest && (s.circ c).moveSlot.isNone

/-- A new function takes effect: toward SPAN_ONLY an available copper path is lost, from it one returns (R11, R61, R69, R70,
R105, R106). -/
def setFunction (k : TrunkId) (f : TrunkFunction) (s : State) : State :=
  let t := s.modTrunk k fun r => { r with function := f, coming := none }
  if f = (s.trunk k).function then t
  else if f = .spanOnly then
    let t := conditionCopper k (interruptCopper k t)
    if s.copperAvail k then copperLostMoves k t else t
  else if (s.trunk k).function = .spanOnly && (s.line.get k).available then uncondCopper k t
  else t

/-- A function set by a request takes effect from the next site frame (R15, log 16). -/
def applyFunction (k : TrunkId) (s : State) : State :=
  match (s.trunk k).coming with
  | none => s
  | some f => setFunction k f s

/-- SET-TRUNK with a function (R15). The present function is the one last set (log 16). -/
def serveSetFunction (trunk function : Byte) : Service := fun s =>
  match trunkArg trunk, functionArg function with
  | some k, some f =>
    if !trunkAtRest s k then deny codeSetTrunk .notAtRest s
    else if strapMgmtTrunk s.dev.straps = some k && f != .trunk then deny codeSetTrunk .mgmtChannel s
    else if f = .monitor && (s.trunk k).insertion != .bypassed then deny codeSetTrunk .wrongState s
    else if f = .spanOnly && !((trunkCircuits k).all fun c => (s.circ c).state = .moved) then deny codeSetTrunk .wrongState s
    else
      let t := s.modTrunk k fun r => { r with coming := if f = r.function then none else some f }
      (t, done codeSetTrunk (trunkBrief t k))
  | _, _ => deny codeSetTrunk .outOfRange s

/-- The codes of a trunk with those named written (10.6). -/
def TrunkCodes.write (t : TrunkCodes) (named idle blocking vacant : Byte) : TrunkCodes :=
  { idleOut := if named.getLsbD 4 then upperCode idle else t.idleOut
    idleIn := if named.getLsbD 3 then lowerCode idle else t.idleIn
    blocking := if named.getLsbD 2 then upperCode blocking else t.blocking
    conditioning := if named.getLsbD 1 then lowerCode blocking else t.conditioning
    vacant := if named.getLsbD 0 then vacant else t.vacant }

/-- Every ABCD code of a trunk differs from 0000. -/
def TrunkCodes.sound (t : TrunkCodes) : Bool :=
  t.idleOut != 0 && t.idleIn != 0 && t.blocking != 0 && t.conditioning != 0

/-- A named ABCD code is 0000 (R74). -/
def namesZero (named idle blocking : Byte) : Bool :=
  (named.getLsbD 4 && upperCode idle = 0) || (named.getLsbD 3 && lowerCode idle = 0) ||
    (named.getLsbD 2 && upperCode blocking = 0) || (named.getLsbD 1 && lowerCode blocking = 0)

/-- SET-TRUNK with codes (R74). -/
def serveSetCodes (trunk named idle blocking vacant : Byte) : Service := fun s =>
  match trunkArg trunk with
  | none => deny codeSetTrunk .outOfRange s
  | some k =>
    if named.extractLsb' 0 5 = 0 || namesZero named idle blocking then deny codeSetTrunk .outOfRange s
    else if !trunkAtRest s k then deny codeSetTrunk .notAtRest s
    else
      let t := forEach (trunkCircuits k) judgeCall
        (s.modTrunk k fun r => { r with codes := r.codes.write named idle blocking vacant })
      (t, done codeSetTrunk (trunkBrief t k))

/-- SET-TRUNK with INSERT (R17). A function that is to take effect from the next frame bars it too (R15, log 16). -/
def serveInsert (trunk : Byte) : Service := fun s =>
  match trunkArg trunk with
  | none => deny codeSetTrunk .outOfRange s
  | some k =>
    if s.dev.devState = .hold && strapMgmtTrunk s.dev.straps != some k then deny codeSetTrunk .held s
    else if (s.trunk k).function != .trunk || (s.trunk k).coming.isSome then deny codeSetTrunk .wrongState s
    else
      let t := s.modTrunk k fun r => if r.insertion = .bypassed then { r with insertion := .acquiring, settle := 0 } else r
      (t, done codeSetTrunk (trunkBrief t k))

/-- SET-TRUNK with WITHDRAW (R18, R19). -/
def serveWithdraw (trunk : Byte) : Service := fun s =>
  match trunkArg trunk with
  | none => deny codeSetTrunk .outOfRange s
  | some k =>
    if strapMgmtTrunk s.dev.straps = some k then deny codeSetTrunk .mgmtChannel s
    else if !((trunkCircuits k).all (homeFree s)) then deny codeSetTrunk .notAtRest s
    else
      let t := s.modTrunk k fun r => { r with insertion := .bypassed, settle := 0, bypass := true }
      (t, done codeSetTrunk (trunkBrief t k))

/-! Parameters (R174) -/

/-- READ-PARAMETERS. -/
def serveReadParameters : Service := fun s => (s, done codeReadParameters (parametersReport s))

/-- An entry's identity or list value lies outside its range. -/
def entryTooLarge (e : ParamId × Word16) : Bool := e.1.limit?.any fun l => decide (l < e.2.toNat)

/-- Writes one parameter; a new reference port restarts qualification in holdover (R14). -/
def writeParameter (i : ParamId) (v : Nat) (s : State) : State :=
  match i with
  | .refPort =>
    if h : v < 16 then
      if s.timing.refPort = ⟨v, h⟩ then s else { s with timing := { s.timing with refPort := ⟨v, h⟩, qual := 0, holdover := true } }
    else s
  | _ => { s with params := s.params.write i v }

/-- The off-mark is held below the on-mark (R157). -/
def clampOffMark (s : State) : State :=
  { s with params := { s.params with offMark := min s.params.offMark (s.params.onMark - 1) } }

/-- The value of the last entry that names a parameter (R174). -/
def lastGiven (l : List (ParamId × Word16)) (i : ParamId) : Option Word16 :=
  (l.reverse.find? fun e => e.1 = i).map Prod.snd

/-- A parameter takes the value of its last entry, if the request names it (R174). -/
def writeNamed (l : List (ParamId × Word16)) (i : ParamId) (s : State) : State :=
  match lastGiven l i with
  | some v => writeParameter i v.toNat s
  | none => s

/-- Every parameter named is written in one step with the value of its last entry; hold-off is compared with the marks
then in force (R157, R174). -/
def writeParameters (l : List (ParamId × Word16)) (s : State) : State :=
  judgeHoldOff (clampOffMark (forEach ParamId.all (writeNamed l) s))

/-- SET-PARAMETERS (R174). The identifiers are all checked before the values of identity and list parameters (log 38). Of a
parameter named twice the last entry alone decides between DONE and DONE_CLAMPED: the model's choice (log 45). -/
def serveSetParameters (entries : List (Byte × Word16)) : Service := fun s =>
  if entries.length < 1 || 18 < entries.length then deny codeSetParameters .badRequest s
  else match entries.mapM fun e => (paramOf e.1).map fun i => (i, e.2) with
    | none => deny codeSetParameters .badRequest s
    | some l =>
      if l.any entryTooLarge then deny codeSetParameters .outOfRange s
      else
        let t := writeParameters l s
        let now (i : ParamId) : Nat := t.params.read t.timing.refPort i
        let asGiven := l.all fun e => (lastGiven l e.1).all fun v => v.toNat = now e.1
        let body := entries.flatMap fun e => e.1 :: (paramOf e.1).elim [] fun i => nat16 (now i)
        (t, { status := if asGiven then statusDone else statusDoneClamped, body := codeSetParameters :: body })

/-! Orders (R134 to R136, R145, R147, R148) -/

/-- The number the next order takes (R134). -/
def OrderUnit.nextNumber (u : OrderUnit) : Byte :=
  (((List.range 256).map fun i => u.counter + BitVec.ofNat 8 i).find? fun n => !(u.list.any fun o => o.number = n)).getD u.counter

/-- The circuits of an order's scope (R135). -/
def scopeOf (s : State) (k : TrunkId) (first last : Nat) : List CircuitId :=
  (rangeCircuits k first last).filter fun c => !(s.info c).mgmt

/-- The order POST-ORDER makes (R136). -/
def postedOrder (s : State) (k : TrunkId) (first last : Byte) (d : Dir) (deadline : Word16) : Order :=
  { number := s.orders.nextNumber, trunk := k, first := first.toNat, last := last.toNat, dir := d,
    deadline := if deadline = 0 then none else some deadline, state := .pending, closing := none, timer := .stopped,
    entries := (scopeOf s k first.toNat last.toNat).map fun c => { circuit := c, state := .unstarted } }

/-- POST-ORDER (R136). -/
def servePostOrder (trunk first last direction : Byte) (deadline : Word16) : Service := fun s =>
  match trunkArg trunk, dirArg direction with
  | some k, some d =>
    if !(channelArg first && channelArg last && decide (first.toNat ≤ last.toNat)) ||
        (scopeOf s k first.toNat last.toNat).isEmpty then deny codePostOrder .outOfRange s
    else if s.dev.devState = .hold then deny codePostOrder .held s
    else if orderListSize ≤ s.orders.list.length then deny codePostOrder .listFull s
    else
      let o := postedOrder s k first last d deadline
      (s.modOrders fun u => { u with list := u.list ++ [o], counter := o.number + 1 }, done codePostOrder (orderRecord o))
  | _, _ => deny codePostOrder .outOfRange s

/-- The cancel of an order (R145). -/
def cancelOne (o : Order) (s : State) : State :=
  if o.state = .pending then s.modOrder o.number fun p => { p with state := .cancelled }
  else if o.closing = some .cancel then s
  else closeOrder o.number .cancel s

/-- CANCEL-ORDER (R145). -/
def serveCancelOrder (number : Byte) : Service := fun s =>
  if s.dev.devState = .hold then deny codeCancelOrder .held s
  else match s.order? number with
    | none => deny codeCancelOrder .outOfRange s
    | some o =>
      if o.state = .pending || o.state = .active then
        let t := cancelOne o s
        (t, done codeCancelOrder ((t.order? number).elim [] orderRecord))
      else deny codeCancelOrder .wrongState s

/-- REMOVE-ORDER (R147). -/
def serveRemoveOrder (number : Byte) : Service := fun s =>
  if s.dev.devState = .hold then deny codeRemoveOrder .held s
  else match s.order? number with
    | none => deny codeRemoveOrder .outOfRange s
    | some o =>
      if o.state = .pending || o.state = .active then deny codeRemoveOrder .wrongState s
      else (s.modOrders fun u => { u with list := u.list.filter fun x => x.number != number }, done codeRemoveOrder [])

/-- The body of a READ-ORDERS response over the records that remain to be carried (10.4). -/
def ordersReply (s : State) (l : List Order) (withList : Bool) : Reply :=
  let carried := l.take (if withList then 1 else 3)
  let next := if withList then none else (l[3]?).map Order.number
  done codeReadOrders
    ([flags [next.isSome, s.orders.turn.isSome], next.getD 0, s.orders.turn.getD 0, nat8 s.slotsOfOrders,
        nat8 carried.length] ++
      carried.flatMap orderRecord ++ (if withList then carried.flatMap entryOctets else []))

/-- READ-ORDERS (R148). -/
def serveReadOrders (fl number : Byte) : Service := fun s =>
  if !fl.msb then (s, ordersReply s s.orders.list false)
  else if (s.order? number).isNone then deny codeReadOrders .outOfRange s
  else (s, ordersReply s (s.orders.list.dropWhile fun o => o.number != number) (fl.getLsbD 6))

/-! Causes, counters, restart (R179 to R182) -/

/-- CLEAR-CAUSES (R179). -/
def serveClearCauses (mask : Word16) : Service := fun s =>
  let t := judgeAttention (s.modMgmt fun g => { g with causes := g.causes &&& ~~~(causeMask mask) })
  (t, done codeClearCauses (causeOctets t.mgmt.causes))

/-- SET-ENABLES (R180). -/
def serveSetEnables (mask : Word16) : Service := fun s =>
  let t := judgeAttention (s.modMgmt fun g => { g with enables := causeMask mask })
  (t, done codeSetEnables (causeOctets t.mgmt.enables))

/-- READ-COUNTERS (R181). -/
def serveReadCounters (group clearing : Byte) : Service := fun s =>
  match counterGroup s group, boolArg clearing with
  | some l, some cl =>
    (if cl then clearGroup group s else s, done codeReadCounters (group :: l.flatMap be16))
  | _, _ => deny codeReadCounters .outOfRange s

/-- RESTART (R182). -/
def serveRestart : Service := fun s =>
  (s.modMgmt fun g => { g with restart := .waiting }, { done codeRestart [] with restart := true })

end Sys2Proof.Machine
end

