-- ==== Sys2Proof/Machine/Peer.lean ====
section
/-! DEFINITION. What a notice from the twin does: answers matched to pending requests (R158), requests found by span
slot, checked for direction, answered again, expected, or resolved as crossings (R159 to R164). -/
namespace Sys2Proof.Machine

/-! Answers -/

/-- The slot an answer to a request of kind `k` matches (R158). -/
def matchSlot (s : State) (n : Notice) (k : ReqKind) : Option MoveId :=
  s.moves.slots.first? fun x => x.any fun v =>
    v.tag = n.tag && v.request.any (fun r => r.kind = k) && v.dir = n.dir && (s.info v.circuit).slot = some n.slot

/-- An answer that matches no slot is stale (R158). -/
def countStale (s : State) : State := s.modLink fun l => { l with stale := bump l.stale }

/-- BLOCKED, or a crossing BLOCK taken as it: a busy circuit is undone with SEIZED, an idle one swaps (R84). -/
def blockedAnswered (m : MoveId) (s : State) : State :=
  match s.move? m with
  | none => s
  | some v =>
    let t := endRequest m s
    if (s.circ v.circuit).busy then undoMove m .seized false true t else initiatorSwap m false t

/-- SWAPPED, or a crossing SWAP taken as it: the swap completes (R86). -/
def swappedAnswered (m : MoveId) (s : State) : State :=
  match s.move? m with
  | none => s
  | some v =>
    completeMove m (swapResult v.kind) ((endRequest m s).modCirc v.circuit fun r => { r with blocked := false })

/-- BRIDGED, or a crossing BRIDGE taken as it (R89). -/
def bridgedAnswered (m : MoveId) (s : State) : State := enterBridged m (endRequest m s)

/-- NOTED (R94, R95). -/
def notedAnswered (m : MoveId) (s : State) : State :=
  startSoak m ((endRequest m s).modMove m fun w => { w with ownRolledNoted := true })

/-- RELEASED (R96). -/
def releasedAnswered (m : MoveId) (s : State) : State := releaseMove m (endRequest m s)

/-- ABANDONED (R99). -/
def abandonedAnswered (m : MoveId) (s : State) : State := finishAbandon m (endRequest m s)

/-- A matching REFUSE undoes or fails the move with the refusal's reason (R86, R87, R98); of an ABANDON it only ends the
pending request (log 18). -/
def refusedAnswered (m : MoveId) (r : RefuseReason) (k : ReqKind) (s : State) : State :=
  match k with
  | .block | .swap => undoMove m r.fault false false (endRequest m s)
  | .bridge | .rolled | .release => failHitless m r.fault (endRequest m s)
  | .abandon => endRequest m s

/-- An answer of each kind taken from the inbound queue. -/
def handleAnswer (n : Notice) (k : ReqKind) (s : State) : State :=
  match matchSlot s n k with
  | none => countStale s
  | some m =>
    match k with
    | .block => blockedAnswered m s
    | .swap => swappedAnswered m s
    | .bridge => bridgedAnswered m s
    | .rolled => notedAnswered m s
    | .release => releasedAnswered m s
    | .abandon => abandonedAnswered m s

/-- A REFUSE taken from the inbound queue. -/
def handleRefuse (n : Notice) (r : RefuseReason) (k : ReqKind) (s : State) : State :=
  match matchSlot s n k with
  | none => countStale s
  | some m => refusedAnswered m r k s

/-! Requests at a rest state -/

/-- A circuit at its starting rest state is ready for a request, the free slot aside (R83, R88, R90). -/
def readyFor (s : State) (c : CircuitId) (d : Dir) : Bool :=
  s.inserted (trunkOf c) && !(s.circ c).blocked && (d = .toSpan || s.copperAvail (trunkOf c))

/-- A responder in a slot takes a BLOCK: blocked, BLOCKED answered, BLOCKING, peer progress timer (R83). -/
def acceptBlock (m : MoveId) (c : CircuitId) (n : Notice) (s : State) : State :=
  (answer n .block (setMoveState c .blocking (s.modCirc c fun r => { r with blocked := true }))).modMove m fun w =>
    { w with progress := .counting 0 }

/-- A responder in a slot takes a BRIDGE: new-path transmit on, BRIDGED answered, BRIDGED (R90). -/
def acceptBridge (m : MoveId) (c : CircuitId) (n : Notice) (s : State) : State :=
  enterBridged m (answer n .bridge (s.modCirc c fun r => r.setTx n.dir.newPath true))

/-- A BLOCK at the starting rest state (R83). -/
def blockAtRest (n : Notice) (c : CircuitId) (s : State) : State :=
  match s.freeMove? with
  | none => s
  | some m =>
    if !readyFor s c n.dir then s
    else if (s.circ c).busy then refuse n .busyCall .block s
    else acceptBlock m c n (takeSlot m c .responder .cold n.dir (some n.tag) none s)

/-- A BRIDGE at the starting rest state (R90). -/
def bridgeAtRest (n : Notice) (c : CircuitId) (s : State) : State :=
  match s.freeMove? with
  | none => s
  | some m =>
    if !readyFor s c n.dir then s
    else acceptBridge m c n (takeSlot m c .responder .hitless n.dir (some n.tag) none s)

/-- A SWAP at a rest state: answered again at the target, refused plain at the start, and with the force flag taken at
once by a ready circuit, without a slot (R88). -/
def swapAtRest (n : Notice) (c : CircuitId) (s : State) : State :=
  if (s.circ c).state = n.dir.targetRest then answer n .swap s
  else if !n.force then refuse n .sequence .swap s
  else if !readyFor s c n.dir then s
  else
    (answer n .swap (swapPaths c n.dir (setMoveState c n.dir.targetRest s))).modCirc c fun r =>
      { r.clearUnselected with lastResult := some (swapResult .force) }

/-- A request at a rest state (R88, R94, R96, R159). -/
def requestAtRest (n : Notice) (k : ReqKind) (c : CircuitId) (s : State) : State :=
  let atStart := (s.circ c).state = n.dir.startRest
  match k with
  | .block => if atStart then blockAtRest n c s else refuse n .direction .block s
  | .bridge => if atStart then bridgeAtRest n c s else refuse n .direction .bridge s
  | .swap => swapAtRest n c s
  | .rolled => if atStart then refuse n .sequence .rolled s else answer n .rolled s
  | .release => if atStart then refuse n .sequence .release s else answer n .release s
  | .abandon => answer n .abandon s

/-! Requests in flight -/

/-- The tag of the first request received for the move becomes the peer tag (R78). -/
def recordPeerTag (m : MoveId) (tag : Word16) (s : State) : State :=
  s.modMove m fun w => if w.peerTag.isNone then { w with peerTag := some tag } else w

/-- A SWAP with the peer tag at a responder in BLOCKING completes the cold move or refuses it (R85). -/
def swapInBlocking (m : MoveId) (v : Move) (n : Notice) (s : State) : State :=
  if (s.circ v.circuit).busy then undoMove m .seized false false (refuse n .busyCall .swap s)
  else
    completeMove m (swapResult .cold)
      (answer n .swap (swapPaths v.circuit v.dir (s.modCirc v.circuit fun r => { r with blocked := false })))

/-- A ROLLED in an in-flight hitless state (R94, R95). -/
def rolledInFlight (m : MoveId) (v : Move) (n : Notice) (s : State) : State :=
  let t := (recordPeerTag m n.tag (answer n .rolled s)).modMove m fun w => { w with peerRolled := true, progress := .stopped }
  if (s.circ v.circuit).state = .rolled && !v.peerRolled then startSoak m t else t

/-- What a retirement undoes of the retired request's local actions (R163). -/
def undoRequest (v : Move) (k : ReqKind) (s : State) : State :=
  match k with
  | .bridge => s.modCirc v.circuit fun r => r.setTx v.dir.newPath false
  | .swap =>
    selectPath v.circuit v.dir.oldPath .other (s.modCirc v.circuit fun r =>
      { (r.setTx v.dir.oldPath true).setTx v.dir.newPath false with blocked := false })
  | _ => s.modCirc v.circuit fun r => { r with blocked := false }

/-- The slot as handed to END A's request (R163, log 21). -/
def Move.handOver (w : Move) (tag : Word16) (k : MoveKind) : Move :=
  { w with
    request := none, order := none, role := .responder, peerTag := some tag, kind := k, peerRolled := false,
    ownRolledNoted := false, rollDue := none, result := none, made := none, progress := .stopped, quiet := .stopped,
    validity := .stopped, soak := .stopped }

/-- END B retires its own request and handles END A's as at the starting rest state (R163). -/
def retire (m : MoveId) (v : Move) (own : ReqKind) (n : Notice) (k : ReqKind) (s : State) : State :=
  let t := undoRequest v own (endRequest m s)
  let t := moveEnded v.order v.circuit false (failFault v.circuit .crossed t)
  let kind : MoveKind := match k with
    | .bridge => .hitless
    | .swap => .force
    | _ => .cold
  let t := t.modMove m fun w => w.handOver n.tag kind
  let rest (u : State) : State := endMove m v.dir.startRest .other false u
  match k with
  | .bridge => acceptBridge m v.circuit n t
  | .swap =>
    if n.force then completeMove m (swapResult .force) (answer n .swap (swapPaths v.circuit v.dir t))
    else rest (refuse n .sequence .swap t)
  | _ =>
    if (t.circ v.circuit).busy then rest (refuse n .busyCall .block t) else acceptBlock m v.circuit n t

/-- A crossing BLOCK, SWAP or BRIDGE (R161 to R163): taken as the answer when the pending request is of its kind, else
resolved by END rank. -/
def crossing (m : MoveId) (v : Move) (n : Notice) (k : ReqKind) (s : State) : State :=
  let own := v.request.map Request.kind
  if own = some .block && k = .block then answer n .block (blockedAnswered m (recordPeerTag m n.tag s))
  else if own = some .bridge && k = .bridge then answer n .bridge (bridgedAnswered m (recordPeerTag m n.tag s))
  else if own = some .swap && k = .swap then answer n .swap (swappedAnswered m (recordPeerTag m n.tag s))
  else match strapEnd s.dev.straps, own with
    | some .b, some .block | some .b, some .bridge | some .b, some .swap =>
      if s.inserted (trunkOf v.circuit) && (v.dir = .toSpan || s.copperAvail (trunkOf v.circuit)) then
        retire m v (own.getD .block) n k s
      else s
    | _, _ => refuse n .crossed k s

/-- An ABANDON for a circuit in flight (R86, R87, R99, R100, R164). One with another tag than the recorded peer tag
belongs to an earlier move. -/
def abandonInFlight (m : MoveId) (v : Move) (n : Notice) (s : State) : State :=
  let t := answer n .abandon s
  if v.peerTag.any fun p => p != n.tag then t
  else match (s.circ v.circuit).state with
    | .blocking | .swapping => undoMove m .abandonedByPeer false false t
    | .abandoning => finishAbandon m t
    | _ => failFault v.circuit .abandonedByPeer (endMove m v.dir.startRest .rollback false t)

/-- A request of the slot's direction, not ABANDON, for a circuit in flight (05, 5.11; R160, R161). -/
def requestInFlight (m : MoveId) (v : Move) (n : Notice) (k : ReqKind) (s : State) : State :=
  let st := (s.circ v.circuit).state
  match k with
  | .block =>
    if st = .blocking && v.role = .responder && v.peerTag = some n.tag then answer n .block s else crossing m v n .block s
  | .swap =>
    if st = .blocking && v.role = .responder && v.peerTag = some n.tag && !n.force then swapInBlocking m v n s
    else crossing m v n .swap s
  | .bridge =>
    if st.hitless && st != .bridging then
      if v.peerTag.all fun p => p = n.tag then recordPeerTag m n.tag (answer n .bridge s)
      else refuse n .sequence .bridge s
    else crossing m v n .bridge s
  | .rolled => if st.hitless then rolledInFlight m v n s else refuse n .sequence .rolled s
  | .release => if st = .rolled then releaseMove m (answer n .release s) else refuse n .sequence .release s
  | .abandon => abandonInFlight m v n s

/-- A request taken from the inbound queue (R159): found by span slot, checked for direction, handled. -/
def handleRequest (n : Notice) (k : ReqKind) (s : State) : State :=
  match s.map.directory.get n.slot with
  | none => if k = .abandon then answer n .abandon s else refuse n .unmapped k s
  | some c =>
    match (s.circ c).moveSlot with
    | none => requestAtRest n k c s
    | some m =>
      match s.move? m with
      | none => s
      | some v => if k != .abandon && v.dir != n.dir then refuse n .direction k s else requestInFlight m v n k s

/-- A notice handed to the move controller (R156). -/
def handleNotice (n : Notice) (s : State) : State :=
  match n.kind with
  | .req k => handleRequest n k s
  | .ans k => handleAnswer n k s
  | .refuse r k => handleRefuse n r k s

/-- The head of the inbound queue is taken, once in each frame, if it satisfies `p`, and handled (R156, log 11). -/
def takeNotice (p : Notice → Bool) (s : State) : State :=
  match s.link.inQ with
  | [] => s
  | n :: rest =>
    if !s.link.taken && p n then handleNotice n (judgeHoldOff (s.modLink fun l => { l with inQ := rest, taken := true }))
    else s

/-- The notice is a request of kind `k` (SWAP: with the given force flag). -/
def isRequest (k : ReqKind) (n : Notice) : Bool := n.kind = .req k

/-- The notice answers a request of kind `k`. -/
def isAnswer (k : ReqKind) (n : Notice) : Bool := n.kind = .ans k

/-- The notice is a REFUSE. -/
def isRefuse (n : Notice) : Bool :=
  match n.kind with
  | .refuse _ _ => true
  | _ => false

end Sys2Proof.Machine
end

