-- ==== Sys2Proof/Machine/Timers.lean ====
section
/-! DEFINITION. What the device does when a timer or a count reaches its limit (R13, R18, R22, R67, R71, R92, R94, R95,
R144, R153, R176). Each acts only while its condition holds (log 4). -/
namespace Sys2Proof.Machine

/-- The octet that the slot entry takes from Sk in the frame in course (R168). -/
def switchSample (k : TrunkId) (p : Nat) (s : State) : Byte :=
  let r := s.sw.get k
  if h : p < 32 then if r.align = .aligned then r.delivered.get ⟨p, h⟩ else 0xFF else 0xFF

/-- The octets from the next possible start word on (R169). -/
def trimHunt : List Byte → List Byte
  | [] => []
  | [a] => if a = 0xE1 then [a] else []
  | a :: b :: l => if a = 0xE1 ∧ b = 0x4B then a :: b :: l else trimHunt (b :: l)

/-- The slot entry opens: delineation in HUNT, the first octet taken, and its first cell to begin at once (R168, R169). -/
def openSlotEntry (s : State) : State :=
  s.modMgmt fun g =>
    { g with
      slotRx := { locked := false, bad := 0,
                  buf := (strapMgmtTrunk s.dev.straps).elim [] fun k =>
                    trimHunt [switchSample k (strapMgmtChannel s.dev.straps) s] }
      slotTx := none }

/-- The settle timer of trunk `k` has reached 8000 frames: INSERTED, bypass released (R18). -/
def completeSettle (k : TrunkId) (s : State) : State :=
  if (s.trunk k).insertion = .acquiring && settleFrames ≤ (s.trunk k).settle then
    let t := raise .inserted (s.modTrunk k fun t => { t with insertion := .inserted, settle := 0, bypass := false })
    if strapMgmtTrunk s.dev.straps = some k then openSlotEntry t else t
  else s

/-- The qualification timer has reached 8000 frames: site timing locks (R13). -/
def lockTiming (s : State) : State :=
  if s.timing.holdover && settleFrames ≤ s.timing.qual then { s with timing := { s.timing with holdover := false } } else s

/-- The site frame count has reached 8000: STARTING becomes RUNNING (R22). -/
def startRunning (s : State) : State :=
  if s.dev.devState = .starting && 8000 ≤ s.now.toNat then { s with dev := { s.dev with devState := .running } } else s

/-- The restore timer of a circuit completes (R71). -/
def completeRestore (c : CircuitId) (s : State) : State :=
  if (s.circ c).restore.isDue then s.modCirc c fun r => { r with conditioned := false, restore := .stopped } else s

/-- The freeze window of a circuit reaches its end frame (R67). -/
def endFreeze (c : CircuitId) (s : State) : State :=
  if (s.circ c).freeze.any fun f => f.endFrame = s.now then s.modCirc c fun r => { r with freeze := none } else s

/-- The tries of a request of kind `k` are exhausted (R153; R86, R87, R96, R98, R99). -/
def exhaustTries (m : MoveId) (k : ReqKind) (s : State) : State :=
  let t := endRequest m s
  match k with
  | .block => undoMove m .peerTimeout false true t
  | .bridge | .rolled => failHitless m .peerTimeout t
  | .swap => undoMove m .swapUnresolved true false t
  | .release => releaseMove m t
  | .abandon => finishAbandon m t

/-- The repeat timer of slot `m` reaches the repeat interval (R153). -/
def repeatRequest (m : MoveId) (s : State) : State :=
  match s.move? m with
  | none => s
  | some v =>
    match v.request with
    | none => s
    | some q =>
      if !q.timer.isDue then s
      else if q.tries = 0 then exhaustTries m q.kind s
      else if sendingQueued m s then
        s.modMove m fun w => { w with request := some { q with timer := .counting 0 } }
      else
        offerRequest v q.kind q.force (some m) (s.modMove m fun w =>
          { w with request := some { q with tries := q.tries - 1, timer := .counting 0 } })

/-- The peer progress timer of slot `m` expires (R85, R94). -/
def expireProgress (m : MoveId) (s : State) : State :=
  match s.move? m with
  | none => s
  | some v =>
    if !v.progress.isDue then s
    else match (s.circ v.circuit).state with
      | .blocking => undoMove m .peerStall false true s
      | .rolled => failHitless m .peerStall s
      | _ => s

/-- The quiet-wait timer of slot `m` expires (R92). -/
def expireQuiet (m : MoveId) (s : State) : State :=
  match s.move? m with
  | none => s
  | some v =>
    if v.quiet.isDue && (s.circ v.circuit).state.awaitsRoll then failHitless m .rollWaitTimeout s else s

/-- The validity timer of slot `m` expires (R91). -/
def expireValidity (m : MoveId) (s : State) : State :=
  match s.move? m with
  | none => s
  | some v => if v.validity.isDue && (s.circ v.circuit).state = .aligned then returnToBridged m s else s

/-- The soak timer of slot `m` expires: RELEASE is sent unless the circuit is pinned (R95). -/
def expireSoak (m : MoveId) (s : State) : State :=
  match s.move? m with
  | none => s
  | some v =>
    if v.soak.isDue && (s.circ v.circuit).state = .rolled then
      let t := s.modMove m fun w => { w with soak := .expired v.soak.count }
      if (s.info v.circuit).pin || v.request.isSome then t else makeRequest m .release false t
    else s

/-- The deadline timer of an order expires (R144). It counts on while the order is ACTIVE, and an order whose closing is
present is not changed otherwise. -/
def expireDeadline (n : Byte) (s : State) : State :=
  match s.order? n with
  | none => s
  | some o =>
    if !o.timer.isDue then s
    else
      let t := s.modOrder n fun o => { o with timer := .expired o.timer.count }
      if o.state = .active && o.closing.isNone then closeOrder n .deadline t else t

/-- The proxy timer reaches the proxy timeout (R176). -/
def expireProxy (s : State) : State :=
  if s.mgmt.proxy.any fun p => p.timer.isDue then refuseProxy .peerTimeout s else s

end Sys2Proof.Machine
end

