-- ==== Sys2Proof/Machine/Agent.lean ====
section
/-! DEFINITION. The management agent: requests taken on either entry, cells delineated and judged, the proxy, and the
restart (09). -/
namespace Sys2Proof.Machine

/-! Serving and forwarding (R171, R175) -/

/-- The agent takes a request on this entry: no RESTART has been taken, and the slot entry is open (R168, R182). -/
def entryTakes (s : State) : Entry → Bool
  | .slot => s.mgmt.restart = .idle && s.slotEntryOpen
  | .span => s.mgmt.restart = .idle

/-- A proxy in WAIT mode is outstanding (R175). -/
def waiting (s : State) : Bool := s.mgmt.proxy.any fun p => p.mode = .wait

/-- A request with target LOCAL is served and answered (R172); on the slot entry it is answered BUSY while a proxy in
WAIT mode is outstanding (R175). What serving it offers to the entry's queue, the EVENT cell of a rise of attention among it
(R180), is offered ahead of the response: the model's choice (log 42). -/
def serveLocal (e : Entry) (tag code : Byte) (f : Service) (s : State) : State :=
  if e = .slot && waiting s then respond e tag targetLocal (refusal code .busy) s
  else
    let r := f s
    respond e tag targetLocal r.2 r.1

/-- A request taken on entry `e`, as its row of the table has it. -/
def takeRequest (e : Entry) (tag code : Byte) (f : Service) (s : State) : State :=
  if entryTakes s e then serveLocal e tag code f s else s

/-- A request with target PEER on the slot entry (R175, R177). -/
def forwardRequest (tag code : Byte) (body : List Byte) (s : State) : State :=
  if s.mgmt.proxy.isSome then respond .slot tag targetPeer (refusal code .busy) s
  else if !s.span.usable then respond .slot tag targetPeer (refusal code .peerAbsent) s
  else if cellQueueSize ≤ s.mgmt.spanQ.length then respond .slot tag targetPeer (refusal code .busy) s
  else
    let t := offerSpanCell
      { cell := { kind := kindRequest, tag := s.mgmt.proxyTagCounter, target := targetLocal, status := 0, body := body },
        restart := false } s
    let t := t.modMgmt fun g =>
      { g with
        proxyTagCounter := g.proxyTagCounter + 1
        proxy := some { stationTag := tag, proxyTag := s.mgmt.proxyTagCounter, mode := s.params.proxyMode, code := code,
                        timer := .counting 0 } }
    if s.params.proxyMode = .post then respond .slot tag targetPeer { status := statusAccepted, body := [] } t else t

/-- A RESPONSE taken on the span entry (R176, R184). -/
def takeResponse (tag status : Byte) (body : List Byte) (s : State) : State :=
  if body.length ≤ bodySize && s.mgmt.proxy.any fun p => p.proxyTag = tag then completeProxy status body s
  else countDiscard .span s

/-! Reading a request's body (R171, 10.6) -/

/-- The service of CIRCUIT-COMMAND; a command outside the eight is out of range. -/
def commandService (trunk channel command : Byte) : Service :=
  match command.toNat with
  | 1 => serveCommand trunk channel false (beginCommand .toSpan)
  | 2 => serveCommand trunk channel false (beginCommand .toCopper)
  | 3 => serveCommand trunk channel false rollCommand
  | 4 => serveCommand trunk channel false releaseCommand
  | 5 => serveCommand trunk channel false abandonCommand
  | 6 => serveCommand trunk channel true pinCommand
  | 7 => serveCommand trunk channel true unpinCommand
  | 8 => serveCommand trunk channel false unblockCommand
  | _ => deny codeCommand .outOfRange

/-- The service of SET-TRUNK; a form outside the four is out of range. -/
def setTrunkService (b : List Byte) : Service :=
  match (octetAt b 2).toNat with
  | 1 => serveSetFunction (octetAt b 1) (octetAt b 3)
  | 2 => serveSetCodes (octetAt b 1) (octetAt b 3) (octetAt b 4) (octetAt b 5) (octetAt b 6)
  | 3 => serveInsert (octetAt b 1)
  | 4 => serveWithdraw (octetAt b 1)
  | _ => deny codeSetTrunk .outOfRange

/-- The service of READ-CIRCUITS; a form outside the two is out of range. -/
def readCircuitsService (b : List Byte) : Service :=
  match (octetAt b 1).toNat with
  | 0 => serveReadRange (octetAt b 2) (octetAt b 3) (octetAt b 4)
  | 1 => serveReadSlot (word16 (octetAt b 2) (octetAt b 3))
  | _ => deny codeReadCircuits .outOfRange

/-- The entries of three octets of SET-PARAMETERS. -/
def parameterEntries : List Byte → List (Byte × Word16)
  | i :: hi :: lo :: l => (i, word16 hi lo) :: parameterEntries l
  | _ => []

/-- The service that a body of the right length names; none: BAD_REQUEST. -/
def serviceOf (b : List Byte) : Option Service :=
  let o := octetAt b
  let sized (n : Nat) (f : Service) : Option Service := if b.length = n then some f else none
  if b = [] then none
  else match (o 0).toNat with
    | 0x01 => sized 3 (serveStatus (o 1) (o 2))
    | 0x02 => sized 5 (readCircuitsService b)
    | 0x03 => sized 8 (serveSetCircuit (o 1) (o 2) (word16 (o 3) (o 4)) (o 5) (o 6) (o 7))
    | 0x04 => sized 6 (serveFillBlock (o 1) (o 2) (o 3) (o 4) (o 5))
    | 0x05 => sized 4 (commandService (o 1) (o 2) (o 3))
    | 0x06 => sized 3 (serveReadTrunk (o 1) (o 2))
    | 0x07 => sized 7 (setTrunkService b)
    | 0x08 => sized 1 serveReadParameters
    | 0x09 => if b.length % 3 = 1 ∧ 4 ≤ b.length then some (serveSetParameters (parameterEntries (b.drop 1))) else none
    | 0x0A => sized 7 (servePostOrder (o 1) (o 2) (o 3) (o 4) (word16 (o 5) (o 6)))
    | 0x0B => sized 2 (serveCancelOrder (o 1))
    | 0x0C => sized 2 (serveRemoveOrder (o 1))
    | 0x0D => sized 3 (serveReadOrders (o 1) (o 2))
    | 0x0E => sized 3 (serveClearCauses (word16 (o 1) (o 2)))
    | 0x0F => sized 3 (serveSetEnables (word16 (o 1) (o 2)))
    | 0x10 => sized 3 (serveReadCounters (o 1) (o 2))
    | 0x11 => sized 1 serveRestart
    | _ => none

/-- The code that a refusal repeats: the first body octet, or the free value when the body is empty (log 14). -/
def codeOf (s : State) (tag : Byte) (len : Nat) (first : Byte) : Byte :=
  if len = 0 then Config.absentCodeOctet s.now.toNat tag else first

/-- A REQUEST taken on an entry: BUSY in WAIT mode, then its target, then its length and code, then service or forwarding
(R171, R175; log 23). `len` is its body length, `first` its first body octet, `b` the octets in use. -/
def takeRequestCell (e : Entry) (tag target : Byte) (len : Nat) (first : Byte) (b : List Byte) (s : State) : State :=
  let refuseWith (r : Reason) : State := respond e tag target (refusal (codeOf s tag len first) r) s
  if e = .slot && waiting s then refuseWith .busy
  else if target != targetLocal && !(target = targetPeer && e = .slot) then refuseWith .badTarget
  else match (if bodySize < len then none else serviceOf b) with
    | none => refuseWith .badRequest
    | some f => if target = targetPeer then forwardRequest tag first b s else serveLocal e tag first f s

/-! Cells (R169 to R171, R184) -/

/-- A good cell of 64 octets handled by its kind. -/
def handleCell (e : Entry) (l : List Byte) (s : State) : State :=
  let len := (octetAt l 6).toNat
  let body := (l.drop 7).take (min len bodySize)
  if s.mgmt.restart != .idle then s
  else if octetAt l 2 = kindIdle then s
  else if octetAt l 2 = kindRequest then takeRequestCell e (octetAt l 3) (octetAt l 4) len (octetAt l 7) body s
  else if octetAt l 2 = kindResponse && e = .span && decide (len ≤ bodySize) then
    takeResponse (octetAt l 3) (octetAt l 5) body s
  else countDiscard e s

/-- The 64 octets that the slot entry has gathered are judged (R169). -/
def takeSlotCell (s : State) : State :=
  let rx := s.mgmt.slotRx
  let cell := rx.buf.take 64
  let setRx (r : SlotRx) (t : State) : State := t.modMgmt fun g => { g with slotRx := r }
  if !s.slotEntryOpen || cell.length < 64 then s
  else if cellGood cell then handleCell .slot cell (setRx { locked := true, bad := 0, buf := rx.buf.drop 64 } s)
  else if !rx.locked then setRx { rx with buf := trimHunt (rx.buf.drop 1) } s
  else
    countUnlessRestart .slot (setRx
      (if rx.bad + 1 = 2 then { locked := false, bad := 0, buf := trimHunt (rx.buf.drop 1) }
       else { rx with bad := rx.bad + 1, buf := rx.buf.drop 64 }) s)

/-- The oldest complete span cell is judged (R170). -/
def takeSpanCell (s : State) : State :=
  match s.mgmt.spanReady with
  | [] => s
  | c :: rest =>
    let t := s.modMgmt fun g => { g with spanReady := rest }
    if !c.bad && cellGood c.octets then handleCell .span c.octets t else countUnlessRestart .span t

/-- The slot entry's outgoing cell has ended: the next is taken from the queue, or an IDLE cell (R168). -/
def endSlotCell (s : State) : State :=
  if s.slotEntryOpen && s.mgmt.slotTx.all fun x => decide (64 ≤ x.sent) then
    s.modMgmt fun g =>
      match g.slotQ with
      | [] => { g with slotTx := some { octets := encodeCell idleCell, sent := 0, restart := false } }
      | c :: rest => { g with slotQ := rest, slotTx := some { octets := encodeCell c.cell, sent := 0, restart := c.restart } }
  else s

/-- The device reset of a RESTART whose response has gone or was dropped (R182). -/
def restartDevice (pins : Straps) (s : State) : State := if s.mgmt.restart = .due then resetDevice pins s else s

end Sys2Proof.Machine
end

