-- ==== Sys2Proof/Machine/Compose.lean ====
section
/-! DEFINITION. What the device sends in one site frame: the E1 frames of both sides and the span frame (R5, R9 to R11,
R24, R25, R36, R62, R65). -/
namespace Sys2Proof.Machine

/-! Bearer and codes (R9, R10, R20, R25, R62, R65) -/

/-- The circuit is the management channel of an INSERTED management trunk, consumed by the agent (R20). -/
def consumed (s : State) (c : CircuitId) : Bool := s.slotEntryOpen && strapMgmtCircuit s.dev.straps = some c

/-- The switch sample of a circuit, FF while Sk receive is not frame-aligned (R10). -/
def circuitSample (s : State) (c : CircuitId) : Byte := switchSample (trunkOf c) (channelOf c) s

/-- The octet a circuit sends on a path whose transmit is on or off (R9, R25). -/
def sentOctet (s : State) (c : CircuitId) (on : Bool) : Byte :=
  if on then circuitSample s c else (s.trunk (trunkOf c)).codes.vacant

/-- The code a circuit sends on a path whose transmit is on or off (R62). -/
def sentCode (s : State) (c : CircuitId) (on : Bool) : Code :=
  if on then (s.circ c).fwd.code else (s.trunk (trunkOf c)).codes.idleOut

/-- The octet of the agent's outgoing cell in the frame in course (R168). -/
def agentOctet (s : State) : Byte := s.mgmt.slotTx.elim 0 fun x => octetAt x.octets x.sent

/-- The bearer presented to the switch (R65, R113). -/
def heardOctet (s : State) (c : CircuitId) : Byte :=
  let r := s.circ c
  if consumed s c then agentOctet s
  else if r.conditioned then (s.trunk (trunkOf c)).codes.vacant
  else histOctet s c r.sel (s.now - (r.depth r.sel).setWidth 32)

/-- The backward code presented to the switch (R20, R65). -/
def heardCode (s : State) (c : CircuitId) : Code :=
  let t := (s.trunk (trunkOf c)).codes
  if consumed s c then t.blocking else presentedCode t (s.circ c)

/-! E1 frames (R9) -/

/-- Slot 0: the alignment octet in even frames, else the non-alignment octet with the A bit (R5, R9). -/
def slotZero (now : Frame) (aligned : Bool) : Byte := if now.getLsbD 0 then (if aligned then 0xDF else 0xFF) else 0x9B

/-- Slot 16 of frame f of the multiframe, with the code of each channel (R9). -/
def slotSixteen (now : Frame) (code : Nat → Code) : Byte :=
  let f := now.toNat % 16
  if f = 0 then 0x0F else codePair (code f) (code (f + 16))

/-- One E1 frame from its codes and channel octets by channel position. -/
def e1Frame (now : Frame) (aligned : Bool) (code : Nat → Code) (octet : Nat → Byte) : E1Frame :=
  Table.ofFn fun p =>
    if p.val = 0 then slotZero now aligned else if p.val = 16 then slotSixteen now code else octet p.val

/-- A value of the circuit at a channel position; positions without a circuit give `d`. -/
def atChannel {α : Type} (k : TrunkId) (d : α) (f : CircuitId → α) (p : Nat) : α := (circuitAt k p).elim d f

/-- The frame sent on Sk. -/
def composeSwitch (s : State) (k : TrunkId) : E1Frame :=
  e1Frame s.now ((s.sw.get k).align = .aligned) (atChannel k 0 (heardCode s)) (atChannel k 0 (heardOctet s))

/-- The frame sent on Lk; all ones while the trunk is SPAN_ONLY (R11). -/
def composeLine (s : State) (k : TrunkId) : E1Frame :=
  if (s.trunk k).function = .spanOnly then ffFrame
  else
    e1Frame s.now ((s.line.get k).align = .aligned) (atChannel k 0 fun c => sentCode s c (s.circ c).cuTx)
      (atChannel k 0 fun c => sentOctet s c (s.circ c).cuTx)

/-! The span frame (R24, R25, R36) -/

/-- The peer status octet (R36). -/
def peerStatus (s : State) : Byte :=
  flags (twoBits s.dev.devState.code ++ twoBits (endCode (strapEnd s.dev.straps)) ++
    [s.link.holdOff, s.span.align != .aligned || s.span.degrade])

/-- The code sent for a span slot (R25). -/
def spanCode (s : State) (sl : SlotId) : Code := (s.map.directory.get sl).elim 0b1001 fun c => sentCode s c (s.circ c).spTx

/-- The channel octet sent for a span slot (R25). -/
def spanOctet (s : State) (sl : SlotId) : Byte := (s.map.directory.get sl).elim 0xD5 fun c => sentOctet s c (s.circ c).spTx

/-- The slot whose number is `32m + j`, m being the frame number modulo 16. -/
def sectionSlot (now : Frame) (j : Fin 32) : SlotId := ⟨32 * (now.toNat % 16) + j.val, by omega⟩

/-- The signalling section of the frame (R25). -/
def signallingSection (s : State) : List Byte :=
  List.ofFn fun i : Fin 16 =>
    codePair (spanCode s (sectionSlot s.now ⟨2 * i.val, by omega⟩)) (spanCode s (sectionSlot s.now ⟨2 * i.val + 1, by omega⟩))

/-- The octets of the span frame from the frame number to the last channel octet (R24). -/
def spanBody (s : State) : List Byte :=
  let notice (n : Option Notice) : List Byte := encodeNotice (if s.span.usable then n else none)
  be16 (s.now.setWidth 16) ++ [peerStatus s] ++
    ((s.mgmt.spanTx.octets.drop (8 * (s.now.toNat % 8))).take 8) ++ notice s.link.txFirst ++ notice s.link.txSecond ++
    signallingSection s ++ (List.finRange 512).map (spanOctet s)

/-- The span frame of 561 octets (R24, R29). -/
def composeSpan (s : State) : List Byte :=
  let b := spanBody s
  spanWord ++ b ++ be16 (crc16 b)

/-- Every frame sent in the site frame in course (R9, R24). -/
def composeAll (s : State) : TxFrames :=
  { sw := Table.ofFn (composeSwitch s), line := Table.ofFn (composeLine s), span := composeSpan s }

end Sys2Proof.Machine
end

