-- ==== Sys2Proof/Machine/Frame.lean ====
section
/-! DEFINITION. SITE_FRAME (R12): what the frame in course still owes is taken, its frames are sent, the count advances, and
for the new frame the timers are counted, the notice positions filled and the stores read (logs 2 and 3). -/
namespace Sys2Proof.Machine

/-! What is still due in the frame in course (log 3) -/

/-- Applies a step at every index of a table whose entry calls for it, in index order. -/
def takeEach {n : Nat} {α : Type} (t : State → Table n α) (p : α → Bool) (f : Fin n → State → State) (s : State) : State :=
  forEach ((t s).indices p) f s

/-- A held move slot satisfies `p`. -/
def heldWith (p : Move → Bool) : Option Move → Bool := fun x => x.any p

/-- The move slots. -/
def State.slotTable (s : State) : Table 64 (Option Move) := s.moves.slots

/-- Site and trunk steps that have come due. -/
def takeSite (s : State) : State :=
  endDegradeInterval (lockTiming (takeEach State.trunks (fun t => t.insertion = .acquiring) completeSettle
    (startRunning (restartDevice s.dev.straps s))))

/-- Quiet tests, rolls due and circuit timers. -/
def takeCircuits (s : State) : State :=
  let t := takeEach State.slotTable (heldWith fun _ => true) testQuiet s
  let t := takeEach State.slotTable (heldWith fun v => v.rollDue.isSome) makeDueRoll t
  let t := takeEach State.circuits (fun r => r.freeze.isSome) endFreeze t
  takeEach State.circuits (fun r => r.restore.isDue) completeRestore t

/-- Timers of moves, measurements, orders and the proxy that have reached their limits. -/
def takeTimers (s : State) : State :=
  let t := takeEach State.slotTable (heldWith fun v => v.validity.isDue) expireValidity s
  let t := takeEach State.slotTable (heldWith fun v => v.quiet.isDue) expireQuiet t
  let t := takeEach (fun u => u.align.corrs) (fun k => k.rec?.any fun x => x.timeout.isDue) timeOutMeasurement t
  let t := takeEach State.slotTable (heldWith fun v => v.progress.isDue) expireProgress t
  let t := takeEach State.slotTable (heldWith fun v => v.request.any fun q => q.timer.isDue) repeatRequest t
  let t := takeEach State.slotTable (heldWith fun v => v.soak.isDue) expireSoak t
  expireProxy (forEach ((t.orders.list.filter fun o => o.timer.isDue).map Order.number) expireDeadline t)

/-- Windows, grants, the notice of the frame and a soak of 0 that it starts (R95), the admission pass, and the cells. -/
def takeUnits (s : State) : State :=
  let t := takeEach (fun u => u.align.corrs) (fun k => k.rec?.isSome) evaluateWindow s
  let t := forEach (List.range 8) (fun _ => grantCorrelator) t
  let t := takeNotice (fun _ => true) t
  let t := takeEach State.slotTable (heldWith fun v => v.soak.isDue) expireSoak t
  let t := grantPart (resolutionPart (promotionPart t))
  let t := takeSlotCell t
  endSlotCell (forEach t.mgmt.spanReady (fun _ => takeSpanCell) t)

/-- Everything due in the frame in course, in a fixed order. -/
def takeDue (s : State) : State := takeUnits (takeTimers (takeCircuits (takeSite s)))

/-! The frames of the frame in course are sent -/

/-- The slot entry's octet has been sent; the last octet of RESTART's response brings the reset (R168, R182). -/
def slotOctetSent (g : Mgmt) : Mgmt :=
  match g.slotTx with
  | none => g
  | some x =>
    { g with
      slotTx := some { x with sent := x.sent + 1 }
      restart := if x.restart && x.sent + 1 = 64 then .due else g.restart }

/-- The span entry's piece has been sent (R170, R182). -/
def spanPieceSent (piece : Nat) (g : Mgmt) : Mgmt :=
  if g.spanTx.restart && piece = 7 then { g with restart := .due } else g

/-- The frames are composed and sent, and the code each circuit was heard with by case 3 or 4 is kept (R67). -/
def sendFrames (s : State) : State :=
  let t := { s with
    tx := some (composeAll s)
    circuits := s.circuits.map fun (r : Circuit) => { r with heard := frozenOrSteady r } }
  let t := if s.slotEntryOpen then t.modMgmt slotOctetSent else t
  (t.modMgmt (spanPieceSent (s.now.toNat % 8))).modSpan fun r =>
    { r with alignedThroughout := r.alignedThroughout && r.align = .aligned }

/-! The new frame -/

/-- The count advances, and what belonged to the frame before is dropped. -/
def advanceCount (s : State) : State :=
  { s with
    timing := { s.timing with count := s.timing.count + 1 }
    params := { s.params with persistenceNow := s.params.persistence, freezeNow := s.params.freeze }
    moves := { s.moves with slots := s.moves.slots.map (Option.map fun (v : Move) => { v with tested := false }) }
    align := { s.align with
      queue := s.align.queue.map fun (e : QueueEntry) => { e with fresh := false }
      corrs := s.align.corrs.map fun (k : Correlator) => { k with justFreed := false } }
    orders := { s.orders with stage := .promotion }
    link := { s.link with taken := false }
    mgmt := { s.mgmt with restart := if s.mgmt.restart = .dropped then .due else s.mgmt.restart } }

/-- The trunk functions set in the frame before take effect (R15). -/
def takeFunctions (s : State) : State := takeEach State.trunks (fun t => t.coming.isSome) applyFunction s

/-- The slips of full stores that belong to the new frame are handed to the alignment unit, ahead of its reads, as the writes
are (R6, R34, R127, log 5). The coppers come in the order of their trunks, and the span last: the model's choice (log 46). -/
def takeDeletions (s : State) : State :=
  let t := s.modAlign fun a => { a with copperDeleted := Table.replicate 16 false, spanDeleted := false }
  let t := forEach (s.align.copperDeleted.indices fun b => b) (fun k u => copperSlip k u.now u) t
  if s.align.spanDeleted then spanSlip t.now t else t

/-- The slot entry takes its octet from the frame just read (R168, R169). -/
def takeSlotOctet (s : State) : State :=
  match strapMgmtTrunk s.dev.straps with
  | none => s
  | some k =>
    if s.slotEntryOpen then
      s.modMgmt fun g =>
        let buf := g.slotRx.buf ++ [switchSample k (strapMgmtChannel s.dev.straps) s]
        { g with slotRx := { g.slotRx with buf := if g.slotRx.locked then buf else trimHunt buf } }
    else s

/-- Every store is read, the history store written, the slot entry served (R6, R34, R111). A slip by repetition is found
here, where SITE_FRAME opens the frame, and so before every window evaluation, quiet test and roll of that frame; R129 and
R130 leave that order open, and this one is the model's choice (log 41). The stores are read in the order of the trunks, the
span's last, which orders the slips of one frame (log 46). -/
def readStores (s : State) : State :=
  let t := forEach (List.finRange 16) (fun k t => readPort (.line k) (readPort (.sw k) t)) s
  takeSlotOctet (writeHistory (readSpan t))

/-- The timers of one move slot (R78, R153). -/
def Move.tick (p : Params) (v : Move) : Move :=
  { v with
    request := v.request.map fun q => { q with timer := q.timer.tick (p.repeatMs * 8) }
    progress := v.progress.tick (p.peerProgress * framesPerSecond)
    quiet := v.quiet.tick (p.quietWait * framesPerSecond)
    validity := v.validity.tick (p.validity * framesPerSecond)
    soak := v.soak.tick (p.soak * framesPerSecond) }

/-- The settle timer of trunk `k` counts while both its ports are available (R18). -/
def Trunk.tick (both : Bool) (t : Trunk) : Trunk :=
  if t.insertion = .acquiring && both && t.settle < settleFrames then { t with settle := t.settle + 1 } else t

/-- Every timer counts the new frame (R13, R18, R32, R71, R78, R117, R144, R153, R176). -/
def tickTimers (s : State) : State :=
  let p := s.params
  { s with
    timing := { s.timing with
      qual := if (s.sw.get s.timing.refPort).available && s.timing.qual < settleFrames then s.timing.qual + 1 else s.timing.qual }
    trunks := s.trunks.mapIdx fun k t => t.tick ((s.sw.get k).available && (s.line.get k).available)
    span := if s.span.interval + 1 = framesPerSecond then { s.span with interval := 0, intervalEnd := true }
      else { s.span with interval := s.span.interval + 1 }
    circuits := s.circuits.map fun (r : Circuit) =>
      if r.sel = .span && s.span.usable && r.conditioned then { r with restore := r.restore.tick (p.restore * framesPerSecond) }
      else r
    moves := { s.moves with slots := s.moves.slots.map (Option.map (Move.tick p)) }
    align := { s.align with corrs := s.align.corrs.map fun (k : Correlator) =>
      { k with rec? := k.rec?.map fun x => { x with timeout := x.timeout.tick (p.alignTimeout * framesPerSecond) } } }
    orders := { s.orders with list := s.orders.list.map fun (o : Order) =>
      { o with timer := o.timer.tickOn ((o.deadline.elim 0 BitVec.toNat) * framesPerSecond) } }
    mgmt := { s.mgmt with proxy := s.mgmt.proxy.map fun (x : Proxy) =>
      { x with timer := x.timer.tick (p.proxyTimeout * framesPerSecond) } } }

/-- The notice positions of the new frame take the head of the outbound queue, unless the peer holds off or the span is
not usable (R152). -/
def fillPositions (s : State) : State :=
  s.modLink fun l =>
    if !s.span.usable || s.span.peerHoldOff then { l with txFirst := none, txSecond := none }
    else
      { l with
        txFirst := (l.outQ[0]?).map OutNotice.notice
        txSecond := (l.outQ[1]?).map OutNotice.notice
        outQ := l.outQ.drop 2 }

/-- In a frame whose number is a multiple of 8 the next span cell is taken (R170). -/
def nextSpanCell (s : State) : State :=
  if s.now.toNat % 8 = 0 then
    s.modMgmt fun g =>
      match g.spanQ with
      | [] => { g with spanTx := { octets := encodeCell idleCell, restart := false } }
      | c :: rest => { g with spanQ := rest, spanTx := { octets := encodeCell c.cell, restart := c.restart } }
  else s

/-- The start of a new frame. The timers count it and its notice positions are filled before anything else happens in it, so
that a notice that joins the queue in this frame is carried in the next at the earliest (R152), and a timer that starts in this
frame counts first in the next (R153). -/
def openFrame (s : State) : State :=
  nextSpanCell (readStores (takeDeletions (takeFunctions (fillPositions (tickTimers (advanceCount s))))))

/-- One frame of site timing (R12). -/
def siteFrame (s : State) : State := openFrame (sendFrames (takeDue s))

end Sys2Proof.Machine
end

