-- ==== Sys2Proof/Machine/LineSteps.lean ====
section
/-! DEFINITION. The steps of the pins, the site clock, the ports, the span and the circuits' own timers, one per row. -/
namespace Sys2Proof.Machine

/-- DEVICE_RESET (R21). -/
def execDeviceReset (pins : Straps) (s : State) : Result := .next (resetDevice pins s)

/-- DEVICE_UNPOWERED (R16). -/
def execDeviceUnpowered (s : State) : Result := .next (losePower s)

/-- RESTART_RESET (R182). -/
def execRestartReset (pins : Straps) (s : State) : Result := whenPowered s (restartDevice pins)

/-- SITE_FRAME (R12). -/
def execSiteFrame (s : State) : Result := whenPowered s siteFrame

/-- SLOT_CELL_END (R168). -/
def execSlotCellEnd (s : State) : Result := whenPowered s endSlotCell

/-- PORT_LOS (R3). -/
def execPortLos (p : PortId) (noSignal : Bool) (s : State) : Result := whenPowered s (evaluatePortLos p noSignal)

/-- PORT_FRAME_RECEIVED (R6). -/
def execPortFrameReceived (p : PortId) (octets : List Byte) (s : State) : Result := whenPowered s (receivePort p octets)

/-- SITE_TIMING_LOCK (R13). -/
def execSiteTimingLock (s : State) : Result := whenPowered s lockTiming

/-- SETTLE_COMPLETE (R18). -/
def execSettleComplete (k : TrunkId) (s : State) : Result := whenPowered s (completeSettle k)

/-- DEVICE_RUNNING (R22). -/
def execDeviceRunning (s : State) : Result := whenPowered s startRunning

/-- SPAN_LOS (R27). -/
def execSpanLos (noSignal : Bool) (s : State) : Result := whenPowered s (evaluateSpanLos noSignal)

/-- SPAN_FRAME_RECEIVED (R30). -/
def execSpanFrameReceived (octets : List Byte) (s : State) : Result := whenPowered s (receiveSpan octets)

/-- DEGRADE_INTERVAL_END (R33). -/
def execDegradeIntervalEnd (s : State) : Result := whenPowered s endDegradeInterval

/-- RESTORE_TIMER_EXPIRY (R71). -/
def execRestoreTimerExpiry (c : CircuitId) (s : State) : Result := whenPowered s (completeRestore c)

/-- FREEZE_WINDOW_END (R67). -/
def execFreezeWindowEnd (c : CircuitId) (s : State) : Result := whenPowered s (endFreeze c)

end Sys2Proof.Machine
end

