-- ==== Sys2Proof/Machine/MoveSteps.lean ====
section
/-! DEFINITION. The steps of the move controller's timers, the alignment unit and the order unit, one per row. -/
namespace Sys2Proof.Machine

/-- REPEAT_TIMER_EXPIRY (R153). -/
def execRepeatTimerExpiry (m : MoveId) (s : State) : Result := whenPowered s (repeatRequest m)

/-- PEER_PROGRESS_EXPIRY (R94). -/
def execPeerProgressExpiry (m : MoveId) (s : State) : Result := whenPowered s (expireProgress m)

/-- QUIET_WAIT_EXPIRY (R92). -/
def execQuietWaitExpiry (m : MoveId) (s : State) : Result := whenPowered s (expireQuiet m)

/-- VALIDITY_EXPIRY (R91). -/
def execValidityExpiry (m : MoveId) (s : State) : Result := whenPowered s (expireValidity m)

/-- SOAK_EXPIRY (R95). -/
def execSoakExpiry (m : MoveId) (s : State) : Result := whenPowered s (expireSoak m)

/-- ROLL_MADE (R93). -/
def execRollMade (m : MoveId) (s : State) : Result := whenPowered s (makeDueRoll m)

/-- CORRELATOR_GRANT (R115). -/
def execCorrelatorGrant (s : State) : Result := whenPowered s grantCorrelator

/-- WINDOW_EVALUATION (R118). -/
def execWindowEvaluation (i : CorrId) (s : State) : Result := whenPowered s (evaluateWindow i)

/-- ALIGNMENT_TIMEOUT (R117). -/
def execAlignmentTimeout (i : CorrId) (s : State) : Result := whenPowered s (timeOutMeasurement i)

/-- QUIET_TEST (R126). -/
def execQuietTest (m : MoveId) (s : State) : Result := whenPowered s (testQuiet m)

/-- ORDER_PROMOTION (R138). -/
def execOrderPromotion (s : State) : Result := whenPowered s promotionPart

/-- ORDER_RESOLUTION (R139). -/
def execOrderResolution (s : State) : Result := whenPowered s resolutionPart

/-- ORDER_GRANT (R141). -/
def execOrderGrant (s : State) : Result := whenPowered s grantPart

/-- DEADLINE_EXPIRY (R144). -/
def execDeadlineExpiry (number : Byte) (s : State) : Result := whenPowered s (expireDeadline number)

end Sys2Proof.Machine
end

