-- ==== Sys2Proof/Machine/NoticeSteps.lean ====
section
/-! DEFINITION. The steps of the coordination link, one per row: the head notice of the inbound queue taken and handled
when it is of the row's kind (log 11). -/
namespace Sys2Proof.Machine

/-- NOTICE_TAKEN (R156): a head notice of any kind. -/
def execNoticeTaken (s : State) : Result := whenPowered s (takeNotice fun _ => true)

/-- SWAP_RECEIVED (R85, R88): without the force flag. -/
def execSwapReceived (s : State) : Result := whenPowered s (takeNotice fun n => isRequest .swap n && !n.force)

/-- FORCED_SWAP_RECEIVED (R88): with the force flag. -/
def execForcedSwapReceived (s : State) : Result := whenPowered s (takeNotice fun n => isRequest .swap n && n.force)

/-- BLOCK_RECEIVED (R83). -/
def execBlockReceived (s : State) : Result := whenPowered s (takeNotice (isRequest .block))

/-- BRIDGE_RECEIVED (R90). -/
def execBridgeReceived (s : State) : Result := whenPowered s (takeNotice (isRequest .bridge))

/-- ROLLED_RECEIVED (R94). -/
def execRolledReceived (s : State) : Result := whenPowered s (takeNotice (isRequest .rolled))

/-- RELEASE_RECEIVED (R96). -/
def execReleaseReceived (s : State) : Result := whenPowered s (takeNotice (isRequest .release))

/-- ABANDON_RECEIVED (R100). -/
def execAbandonReceived (s : State) : Result := whenPowered s (takeNotice (isRequest .abandon))

/-- BLOCKED_RECEIVED (R84). -/
def execBlockedReceived (s : State) : Result := whenPowered s (takeNotice (isAnswer .block))

/-- SWAPPED_RECEIVED (R86). -/
def execSwappedReceived (s : State) : Result := whenPowered s (takeNotice (isAnswer .swap))

/-- BRIDGED_RECEIVED (R89). -/
def execBridgedReceived (s : State) : Result := whenPowered s (takeNotice (isAnswer .bridge))

/-- NOTED_RECEIVED (R94). -/
def execNotedReceived (s : State) : Result := whenPowered s (takeNotice (isAnswer .rolled))

/-- RELEASED_RECEIVED (R96). -/
def execReleasedReceived (s : State) : Result := whenPowered s (takeNotice (isAnswer .release))

/-- ABANDONED_RECEIVED (R99). -/
def execAbandonedReceived (s : State) : Result := whenPowered s (takeNotice (isAnswer .abandon))

/-- REFUSE_RECEIVED (R158). -/
def execRefuseReceived (s : State) : Result := whenPowered s (takeNotice isRefuse)

end Sys2Proof.Machine
end

