-- ==== Sys2Proof/Machine/Requests.lean ====
section
/-! DEFINITION. The steps of the management agent, one per row: cells, the proxy, and each request taken on an entry with
its tag (log 12). -/
namespace Sys2Proof.Machine

/-- SLOT_CELL_TAKEN (R169, R171). -/
def execSlotCellTaken (s : State) : Result := whenPowered s takeSlotCell

/-- SPAN_CELL_TAKEN (R170, R171). -/
def execSpanCellTaken (s : State) : Result := whenPowered s takeSpanCell

/-- PROXY_REQUEST (R175): a REQUEST with target PEER on the slot entry. -/
def execProxyRequest (tag : Byte) (body : List Byte) (s : State) : Result :=
  whenPowered s fun t =>
    if entryTakes t .slot then takeRequestCell .slot tag targetPeer body.length (octetAt body 0) body t else t

/-- PROXY_RESPONSE (R176): a RESPONSE on the span entry. -/
def execProxyResponse (tag status : Byte) (body : List Byte) (s : State) : Result :=
  whenPowered s fun t => if entryTakes t .span then takeResponse tag status body t else t

/-- PROXY_TIMEOUT (R176). -/
def execProxyTimeout (s : State) : Result := whenPowered s expireProxy

/-- STATUS (R173). -/
def execStatus (e : Entry) (tag part start : Byte) (s : State) : Result :=
  whenPowered s (takeRequest e tag codeStatus (serveStatus part start))

/-- READ_CIRCUITS_RANGE (R56). -/
def execReadCircuitsRange (e : Entry) (tag trunk first last : Byte) (s : State) : Result :=
  whenPowered s (takeRequest e tag codeReadCircuits (serveReadRange trunk first last))

/-- READ_CIRCUITS_SLOT (R57). -/
def execReadCircuitsSlot (e : Entry) (tag : Byte) (slot : Word16) (s : State) : Result :=
  whenPowered s (takeRequest e tag codeReadCircuits (serveReadSlot slot))

/-- SET_CIRCUIT (R52). -/
def execSetCircuit (e : Entry) (tag trunk channel : Byte) (slot : Word16) (policy rollOnCommand pin : Byte) (s : State) : Result :=
  whenPowered s (takeRequest e tag codeSetCircuit (serveSetCircuit trunk channel slot policy rollOnCommand pin))

/-- FILL_BLOCK (R54). -/
def execFillBlock (e : Entry) (tag trunk block ordering key policy : Byte) (s : State) : Result :=
  whenPowered s (takeRequest e tag codeFillBlock (serveFillBlock trunk block ordering key policy))

/-- MOVE (R80). -/
def execMove (e : Entry) (tag trunk channel : Byte) (s : State) : Result :=
  whenPowered s (takeRequest e tag codeCommand (serveCommand trunk channel false (beginCommand .toSpan)))

/-- RETURN (R80). -/
def execRet (e : Entry) (tag trunk channel : Byte) (s : State) : Result :=
  whenPowered s (takeRequest e tag codeCommand (serveCommand trunk channel false (beginCommand .toCopper)))

/-- ROLL (R108). -/
def execRoll (e : Entry) (tag trunk channel : Byte) (s : State) : Result :=
  whenPowered s (takeRequest e tag codeCommand (serveCommand trunk channel false rollCommand))

/-- RELEASE (R108). -/
def execRelease (e : Entry) (tag trunk channel : Byte) (s : State) : Result :=
  whenPowered s (takeRequest e tag codeCommand (serveCommand trunk channel false releaseCommand))

/-- ABANDON (R109). -/
def execAbandon (e : Entry) (tag trunk channel : Byte) (s : State) : Result :=
  whenPowered s (takeRequest e tag codeCommand (serveCommand trunk channel false abandonCommand))

/-- PIN (R110). -/
def execPin (e : Entry) (tag trunk channel : Byte) (s : State) : Result :=
  whenPowered s (takeRequest e tag codeCommand (serveCommand trunk channel true pinCommand))

/-- UNPIN (R110). -/
def execUnpin (e : Entry) (tag trunk channel : Byte) (s : State) : Result :=
  whenPowered s (takeRequest e tag codeCommand (serveCommand trunk channel true unpinCommand))

/-- UNBLOCK (R104). -/
def execUnblock (e : Entry) (tag trunk channel : Byte) (s : State) : Result :=
  whenPowered s (takeRequest e tag codeCommand (serveCommand trunk channel false unblockCommand))

/-- READ_TRUNK (R23). -/
def execReadTrunk (e : Entry) (tag trunk clearing : Byte) (s : State) : Result :=
  whenPowered s (takeRequest e tag codeReadTrunk (serveReadTrunk trunk clearing))

/-- SET_TRUNK_FUNCTION (R15). -/
def execSetTrunkFunction (e : Entry) (tag trunk function : Byte) (s : State) : Result :=
  whenPowered s (takeRequest e tag codeSetTrunk (serveSetFunction trunk function))

/-- SET_TRUNK_CODES (R74). -/
def execSetTrunkCodes (e : Entry) (tag trunk named idle blocking vacant : Byte) (s : State) : Result :=
  whenPowered s (takeRequest e tag codeSetTrunk (serveSetCodes trunk named idle blocking vacant))

/-- INSERT (R17). -/
def execInsert (e : Entry) (tag trunk : Byte) (s : State) : Result :=
  whenPowered s (takeRequest e tag codeSetTrunk (serveInsert trunk))

/-- WITHDRAW (R18, R19). -/
def execWithdraw (e : Entry) (tag trunk : Byte) (s : State) : Result :=
  whenPowered s (takeRequest e tag codeSetTrunk (serveWithdraw trunk))

/-- READ_PARAMETERS (R174). -/
def execReadParameters (e : Entry) (tag : Byte) (s : State) : Result :=
  whenPowered s (takeRequest e tag codeReadParameters serveReadParameters)

/-- SET_PARAMETERS (R174). -/
def execSetParameters (e : Entry) (tag : Byte) (entries : List (Byte × Word16)) (s : State) : Result :=
  whenPowered s (takeRequest e tag codeSetParameters (serveSetParameters entries))

/-- POST_ORDER (R136). -/
def execPostOrder (e : Entry) (tag trunk first last direction : Byte) (deadline : Word16) (s : State) : Result :=
  whenPowered s (takeRequest e tag codePostOrder (servePostOrder trunk first last direction deadline))

/-- CANCEL_ORDER (R145). -/
def execCancelOrder (e : Entry) (tag number : Byte) (s : State) : Result :=
  whenPowered s (takeRequest e tag codeCancelOrder (serveCancelOrder number))

/-- REMOVE_ORDER (R147). -/
def execRemoveOrder (e : Entry) (tag number : Byte) (s : State) : Result :=
  whenPowered s (takeRequest e tag codeRemoveOrder (serveRemoveOrder number))

/-- READ_ORDERS (R148). -/
def execReadOrders (e : Entry) (tag fl number : Byte) (s : State) : Result :=
  whenPowered s (takeRequest e tag codeReadOrders (serveReadOrders fl number))

/-- CLEAR_CAUSES (R179). -/
def execClearCauses (e : Entry) (tag : Byte) (mask : Word16) (s : State) : Result :=
  whenPowered s (takeRequest e tag codeClearCauses (serveClearCauses mask))

/-- SET_ENABLES (R180). -/
def execSetEnables (e : Entry) (tag : Byte) (mask : Word16) (s : State) : Result :=
  whenPowered s (takeRequest e tag codeSetEnables (serveSetEnables mask))

/-- READ_COUNTERS (R181). -/
def execReadCounters (e : Entry) (tag group clearing : Byte) (s : State) : Result :=
  whenPowered s (takeRequest e tag codeReadCounters (serveReadCounters group clearing))

/-- RESTART (R182). -/
def execRestart (e : Entry) (tag : Byte) (s : State) : Result :=
  whenPowered s (takeRequest e tag codeRestart serveRestart)

end Sys2Proof.Machine
end

