-- ==== Sys2Proof/Machine/Dispatch.lean ====
section
/-! DEFINITION. What each command does: one arm per constructor, one direct call of its meaning. -/
namespace Sys2Proof.Machine

def exec (i : Instr) (s : State) : Host.Outcome State Fault Refusal :=
  match i with
  | .deviceReset pins => Sys2Proof.Machine.execDeviceReset pins s
  | .siteFrame => Sys2Proof.Machine.execSiteFrame s
  | .slotCellEnd => Sys2Proof.Machine.execSlotCellEnd s
  | .portLos p noSignal => Sys2Proof.Machine.execPortLos p noSignal s
  | .portFrameReceived p octets => Sys2Proof.Machine.execPortFrameReceived p octets s
  | .siteTimingLock => Sys2Proof.Machine.execSiteTimingLock s
  | .settleComplete k => Sys2Proof.Machine.execSettleComplete k s
  | .deviceRunning => Sys2Proof.Machine.execDeviceRunning s
  | .spanLos noSignal => Sys2Proof.Machine.execSpanLos noSignal s
  | .spanFrameReceived octets => Sys2Proof.Machine.execSpanFrameReceived octets s
  | .degradeIntervalEnd => Sys2Proof.Machine.execDegradeIntervalEnd s
  | .restoreTimerExpiry c => Sys2Proof.Machine.execRestoreTimerExpiry c s
  | .freezeWindowEnd c => Sys2Proof.Machine.execFreezeWindowEnd c s
  | .noticeTaken => Sys2Proof.Machine.execNoticeTaken s
  | .blockReceived => Sys2Proof.Machine.execBlockReceived s
  | .swapReceived => Sys2Proof.Machine.execSwapReceived s
  | .forcedSwapReceived => Sys2Proof.Machine.execForcedSwapReceived s
  | .bridgeReceived => Sys2Proof.Machine.execBridgeReceived s
  | .rolledReceived => Sys2Proof.Machine.execRolledReceived s
  | .releaseReceived => Sys2Proof.Machine.execReleaseReceived s
  | .abandonReceived => Sys2Proof.Machine.execAbandonReceived s
  | .blockedReceived => Sys2Proof.Machine.execBlockedReceived s
  | .swappedReceived => Sys2Proof.Machine.execSwappedReceived s
  | .bridgedReceived => Sys2Proof.Machine.execBridgedReceived s
  | .notedReceived => Sys2Proof.Machine.execNotedReceived s
  | .releasedReceived => Sys2Proof.Machine.execReleasedReceived s
  | .abandonedReceived => Sys2Proof.Machine.execAbandonedReceived s
  | .refuseReceived => Sys2Proof.Machine.execRefuseReceived s
  | .repeatTimerExpiry m => Sys2Proof.Machine.execRepeatTimerExpiry m s
  | .peerProgressExpiry m => Sys2Proof.Machine.execPeerProgressExpiry m s
  | .quietWaitExpiry m => Sys2Proof.Machine.execQuietWaitExpiry m s
  | .validityExpiry m => Sys2Proof.Machine.execValidityExpiry m s
  | .soakExpiry m => Sys2Proof.Machine.execSoakExpiry m s
  | .rollMade m => Sys2Proof.Machine.execRollMade m s
  | .correlatorGrant => Sys2Proof.Machine.execCorrelatorGrant s
  | .windowEvaluation w => Sys2Proof.Machine.execWindowEvaluation w s
  | .alignmentTimeout w => Sys2Proof.Machine.execAlignmentTimeout w s
  | .quietTest m => Sys2Proof.Machine.execQuietTest m s
  | .orderPromotion => Sys2Proof.Machine.execOrderPromotion s
  | .orderResolution => Sys2Proof.Machine.execOrderResolution s
  | .orderGrant => Sys2Proof.Machine.execOrderGrant s
  | .deadlineExpiry number => Sys2Proof.Machine.execDeadlineExpiry number s
  | .slotCellTaken => Sys2Proof.Machine.execSlotCellTaken s
  | .spanCellTaken => Sys2Proof.Machine.execSpanCellTaken s
  | .proxyRequest tag body => Sys2Proof.Machine.execProxyRequest tag body s
  | .proxyResponse tag status body => Sys2Proof.Machine.execProxyResponse tag status body s
  | .proxyTimeout => Sys2Proof.Machine.execProxyTimeout s
  | .status e tag part start => Sys2Proof.Machine.execStatus e tag part start s
  | .readCircuitsRange e tag trunk first last => Sys2Proof.Machine.execReadCircuitsRange e tag trunk first last s
  | .readCircuitsSlot e tag slot => Sys2Proof.Machine.execReadCircuitsSlot e tag slot s
  | .setCircuit e tag trunk channel slot policy rollOnCommand pin => Sys2Proof.Machine.execSetCircuit e tag trunk channel slot policy rollOnCommand pin s
  | .fillBlock e tag trunk block ordering key policy => Sys2Proof.Machine.execFillBlock e tag trunk block ordering key policy s
  | .move e tag trunk channel => Sys2Proof.Machine.execMove e tag trunk channel s
  | .ret e tag trunk channel => Sys2Proof.Machine.execRet e tag trunk channel s
  | .roll e tag trunk channel => Sys2Proof.Machine.execRoll e tag trunk channel s
  | .release e tag trunk channel => Sys2Proof.Machine.execRelease e tag trunk channel s
  | .abandon e tag trunk channel => Sys2Proof.Machine.execAbandon e tag trunk channel s
  | .pin e tag trunk channel => Sys2Proof.Machine.execPin e tag trunk channel s
  | .unpin e tag trunk channel => Sys2Proof.Machine.execUnpin e tag trunk channel s
  | .unblock e tag trunk channel => Sys2Proof.Machine.execUnblock e tag trunk channel s
  | .readTrunk e tag trunk clearing => Sys2Proof.Machine.execReadTrunk e tag trunk clearing s
  | .setTrunkFunction e tag trunk function => Sys2Proof.Machine.execSetTrunkFunction e tag trunk function s
  | .setTrunkCodes e tag trunk named idle blocking vacant => Sys2Proof.Machine.execSetTrunkCodes e tag trunk named idle blocking vacant s
  | .insert e tag trunk => Sys2Proof.Machine.execInsert e tag trunk s
  | .withdraw e tag trunk => Sys2Proof.Machine.execWithdraw e tag trunk s
  | .readParameters e tag => Sys2Proof.Machine.execReadParameters e tag s
  | .setParameters e tag entries => Sys2Proof.Machine.execSetParameters e tag entries s
  | .postOrder e tag trunk first last direction deadline => Sys2Proof.Machine.execPostOrder e tag trunk first last direction deadline s
  | .cancelOrder e tag number => Sys2Proof.Machine.execCancelOrder e tag number s
  | .removeOrder e tag number => Sys2Proof.Machine.execRemoveOrder e tag number s
  | .readOrders e tag flags number => Sys2Proof.Machine.execReadOrders e tag flags number s
  | .clearCauses e tag mask => Sys2Proof.Machine.execClearCauses e tag mask s
  | .setEnables e tag mask => Sys2Proof.Machine.execSetEnables e tag mask s
  | .readCounters e tag group clearing => Sys2Proof.Machine.execReadCounters e tag group clearing s
  | .restart e tag => Sys2Proof.Machine.execRestart e tag s
  | .restartReset pins => Sys2Proof.Machine.execRestartReset pins s
  | .deviceUnpowered => Sys2Proof.Machine.execDeviceUnpowered s

end Sys2Proof.Machine
end

