-- ==== Sys2Proof/WellFormed.lean ====
section
/-! DEFINITION. Which commands are well formed: the lengths of the octet strings and lists they carry (log 6, 10.3, 10.6). -/
namespace Sys2Proof

/-- The lengths a command's strings may have: 32 octets of a port's stream, 561 of the span's, a cell body with a code and
at most 55 octets, and 1 to 18 parameter entries. Every other operand is bounded by its type. -/
def Instr.wellFormed : Instr → Bool
  | .portFrameReceived _ octets => octets.length = 32
  | .spanFrameReceived octets => octets.length = 561
  | .proxyRequest _ body => decide (1 ≤ body.length ∧ body.length ≤ bodySize)
  | .proxyResponse _ _ body => decide (body.length ≤ bodySize)
  | .setParameters _ _ entries => decide (1 ≤ entries.length ∧ entries.length ≤ 18)
  | _ => true

end Sys2Proof
end

