-- ==== Sys2Proof/Safety.lean ====
section
/-! DEFINITION. What holds of every state that steps reach from a device reset: one predicate for each block. -/
namespace Sys2Proof.Machine

/-- A port's available flag is the judgement of R4; LOS holds it out of alignment (R3); out of ALIGNED its multiframe
alignment is MF_SEARCH and its far-alarm flag clear (R2, R5); its store holds at most 2 frames (R6). -/
abbrev PortRx.sound (r : PortRx) : Prop :=
  r.available = r.judgeAvailable ∧
  (r.los = true → r.align = .search ∧ r.ais = false) ∧
  (r.align ≠ .aligned → r.mf = .search ∧ r.far = false) ∧
  r.store.length ≤ 2

/-- Every port is sound. -/
def PortsSound (s : State) : Prop := ∀ p, (s.port p).sound

/-- The span usable flag is the judgement of R40; LOS holds the receive in SEARCH (R27); out of ALIGNED the frame number
is invalid (R28), the received peer status absent and clear (R37) and the peer not present (R38); the runs stay at most
16 (R38, R39) and the store at most 8 frames (R34). -/
abbrev SpanSound (s : State) : Prop :=
  s.span.usable = s.span.judgeUsable ∧
  (s.span.los = true → s.span.align = .search) ∧
  (s.span.align ≠ .aligned →
    s.span.rxNumber = none ∧ s.span.peerState = none ∧ s.span.peerEnd = none ∧ s.span.peerHoldOff = false ∧
      s.span.peerFarFault = false ∧ s.span.present = false) ∧
  s.span.runningRun ≤ 16 ∧ s.span.otherRun ≤ 16 ∧ s.span.sameRun ≤ 16 ∧ s.span.differRun ≤ 16 ∧
  s.span.store.length ≤ 8

/-- The slot directory and the records agree, no slot is held twice (R45, R46); the management channel flag stands in the
record that the straps select and in no other, and that record is unmapped (R44). -/
def MapSound (s : State) : Prop :=
  (∀ sl c, s.map.directory.get sl = some c ↔ (s.info c).slot = some sl) ∧
  (∀ c, (s.info c).mgmt = true ↔ strapMgmtCircuit s.dev.straps = some c) ∧
  (∀ c, (s.info c).mgmt = true → (s.info c).slot = none)

/-- The device is in HOLD exactly with inhibited SITE straps (R22); a powered trunk's bypass output is released exactly
while it is INSERTED (R16); a MONITOR trunk is BYPASSED (R15); the management trunk is TRUNK and never BYPASSED (R20);
no ABCD code of a trunk is 0000 (R74). -/
def TrunksSound (s : State) : Prop :=
  (s.dev.devState = .hold ↔ strapEnd s.dev.straps = none) ∧
  ∀ k,
    (s.dev.powered = true → ((s.trunk k).bypass = false ↔ (s.trunk k).insertion = .inserted)) ∧
    ((s.trunk k).function = .monitor ∨ (s.trunk k).coming = some .monitor → (s.trunk k).insertion = .bypassed) ∧
    (strapMgmtTrunk s.dev.straps = some k →
      (s.trunk k).function = .trunk ∧ (s.trunk k).coming = none ∧ (s.trunk k).insertion ≠ .bypassed) ∧
    (s.trunk k).codes.sound = true

/-- Every parameter lies in the range of 10.5 (R131, R154, R157, R174). -/
abbrev ParamsSound (s : State) : Prop :=
  let p := s.params
  (1 ≤ p.degrade ∧ p.degrade ≤ 1000) ∧ (2 ≤ p.persistence ∧ p.persistence ≤ 8) ∧ (2 ≤ p.freeze ∧ p.freeze ≤ 16) ∧
  (1 ≤ p.restore ∧ p.restore ≤ 60) ∧ (5 ≤ p.peerProgress ∧ p.peerProgress ≤ 300) ∧
  (1 ≤ p.quietWait ∧ p.quietWait ≤ 120) ∧ (1 ≤ p.validity ∧ p.validity ≤ 10) ∧ p.soak ≤ 3600 ∧
  (p.window = 16 ∨ p.window = 32 ∨ p.window = 64) ∧ (2 ≤ p.distinct ∧ p.distinct ≤ 8) ∧ p.slew ≤ 32 ∧
  (1 ≤ p.alignTimeout ∧ p.alignTimeout ≤ 60) ∧ (10 ≤ p.repeatMs ∧ p.repeatMs ≤ 250 ∧ p.repeatMs % 10 = 0) ∧
  (1 ≤ p.tries ∧ p.tries ≤ 15) ∧ p.preset ≤ 3 ∧ (1 ≤ p.onMark ∧ p.onMark ≤ 64) ∧ p.offMark < p.onMark ∧
  (1 ≤ p.proxyTimeout ∧ p.proxyTimeout ≤ 10)

/-- The queues keep within their capacities (R151, R155, R168, R170). -/
abbrev QueuesSound (s : State) : Prop :=
  s.link.outQ.length ≤ outboundSize ∧ s.link.inQ.length ≤ inboundSize ∧
  s.mgmt.slotQ.length ≤ cellQueueSize ∧ s.mgmt.spanQ.length ≤ cellQueueSize

/-- The order list holds at most 32 orders, of distinct numbers, at most 4 of them ACTIVE (R133, R134, R138). -/
abbrev OrdersSound (s : State) : Prop :=
  s.orders.list.length ≤ orderListSize ∧
  (s.orders.list.map Order.number).Nodup ∧
  (s.orders.list.countP fun o => o.state = .active) ≤ activeOrders

/-- Circuits and move slots point at one another, a circuit holds a slot exactly when it is not at rest, and it carries
the direction and the order of its move (R77, R101). -/
def MovesSound (s : State) : Prop :=
  (∀ c m, (s.circ c).moveSlot = some m ↔ ∃ v, s.move? m = some v ∧ v.circuit = c) ∧
  (∀ c, (s.circ c).moveSlot = none ↔ (s.circ c).state.atRest = true) ∧
  (∀ m v, s.move? m = some v → (s.circ v.circuit).dir = some v.dir ∧ (s.circ v.circuit).order = v.order) ∧
  (∀ c, (s.circ c).moveSlot = none → (s.circ c).dir = none ∧ (s.circ c).order = none)

/-- A cause is pending. -/
abbrev State.pendingCause (s : State) (c : Cause) : Prop := s.mgmt.causes &&& c.bit = c.bit

/-- The parts of the device that no move, notice, order or circuit command reaches: device and straps, site timing,
parameters, trunks, ports, span receive, the frames sent and the queue of commands. -/
structure Surroundings where
  dev : Device
  timing : Timing
  params : Params
  trunks : Table 16 Trunk
  sw : Table 16 PortRx
  line : Table 16 PortRx
  span : SpanRx
  tx : Option TxFrames
  pending : List Instr

/-- The surroundings in a state. -/
def State.surroundings (s : State) : Surroundings :=
  { dev := s.dev, timing := s.timing, params := s.params, trunks := s.trunks, sw := s.sw, line := s.line, span := s.span,
    tx := s.tx, pending := s.pending }

/-- The rows that reach none of the surroundings: what they change lies in the circuits, moves, alignment unit, orders,
coordination link, circuit map and management agent. A taken cell may carry any request, so its rows are not among them. -/
def keepsSurroundings : Instr → Bool
  | .deviceReset _ | .siteFrame | .portLos _ _ | .portFrameReceived _ _ | .siteTimingLock | .settleComplete _
  | .deviceRunning | .spanLos _ | .spanFrameReceived _ | .degradeIntervalEnd | .slotCellTaken | .spanCellTaken
  | .readTrunk _ _ _ _ | .setTrunkFunction _ _ _ _ | .setTrunkCodes _ _ _ _ _ _ _ | .insert _ _ _ | .withdraw _ _ _
  | .setParameters _ _ _ | .readCounters _ _ _ _ | .restartReset _ | .deviceUnpowered => false
  | _ => true

/-- The rows that never change the circuit map. SITE_FRAME is not among them: it takes cells that wait and a RESTART's due
reset. -/
def keepsMap : Instr → Bool
  | .deviceReset _ | .restartReset _ | .siteFrame | .slotCellTaken | .spanCellTaken | .setCircuit _ _ _ _ _ _ _ _
  | .fillBlock _ _ _ _ _ _ _ | .pin _ _ _ _ | .unpin _ _ _ _ => false
  | _ => true

/-- The rows that write the history store. -/
def writesHistory : Instr → Bool
  | .deviceReset _ | .restartReset _ | .siteFrame => true
  | _ => false

/-! Circumstances that the statements name -/

/-- A notice stands at the head of the inbound queue of a powered device whose span is usable, none has been taken in this
frame, and the outbound queue has room. -/
abbrev NoticeAtHead (s : State) (n : Notice) : Prop :=
  s.dev.powered = true ∧ s.span.usable = true ∧ s.link.taken = false ∧ s.link.inQ.head? = some n ∧
  s.link.outQ.length < outboundSize

/-- Move slot `m` of a powered device holds a move of a mapped circuit, the span is usable and the outbound queue has
room. -/
abbrev InFlightWith (s : State) (m : MoveId) (v : Move) (sl : SlotId) : Prop :=
  s.dev.powered = true ∧ s.move? m = some v ∧ (s.info v.circuit).slot = some sl ∧ s.span.usable = true ∧
  s.link.outQ.length < outboundSize

/-- Nothing changes but circuit `c` and move slot `m` among the circuits and moves. -/
def OnlyMoveOf (s t : State) (c : CircuitId) (m : MoveId) : Prop :=
  (∀ c', c' ≠ c → t.circ c' = s.circ c') ∧ ∀ m', m' ≠ m → t.move? m' = s.move? m'

/-- The notice rows but NOTICE_TAKEN. -/
def noticeRows : List Instr :=
  [.blockReceived, .swapReceived, .forcedSwapReceived, .bridgeReceived, .rolledReceived, .releaseReceived,
    .abandonReceived, .blockedReceived, .swappedReceived, .bridgedReceived, .notedReceived, .releasedReceived,
    .abandonedReceived, .refuseReceived]

/-- The row of a notice's kind. -/
def rowOf (n : Notice) : Instr :=
  match n.kind with
  | .req .block => .blockReceived
  | .req .swap => if n.force then .forcedSwapReceived else .swapReceived
  | .req .bridge => .bridgeReceived
  | .req .rolled => .rolledReceived
  | .req .release => .releaseReceived
  | .req .abandon => .abandonReceived
  | .ans .block => .blockedReceived
  | .ans .swap => .swappedReceived
  | .ans .bridge => .bridgedReceived
  | .ans .rolled => .notedReceived
  | .ans .release => .releasedReceived
  | .ans .abandon => .abandonedReceived
  | .refuse _ _ => .refuseReceived

/-- The notice's slot is held by circuit `c`, which holds no move slot. -/
abbrev FindsAtRest (s : State) (n : Notice) (c : CircuitId) : Prop :=
  s.map.directory.get n.slot = some c ∧ (s.circ c).moveSlot = none

/-- The notice's slot is held by a circuit in flight in move slot `m`, in the notice's direction. -/
abbrev FindsInFlight (s : State) (n : Notice) (m : MoveId) (v : Move) : Prop :=
  s.map.directory.get n.slot = some v.circuit ∧ (s.circ v.circuit).moveSlot = some m ∧ s.move? m = some v ∧ v.dir = n.dir

/-- A BLOCK, SWAP or BRIDGE for a circuit in flight that is neither a repeat nor expected there (R85, R160, R161). -/
def Crosses (s : State) (n : Notice) (k : ReqKind) (v : Move) : Prop :=
  (k = .block ∨ k = .swap ∨ k = .bridge) ∧
  ¬ ((s.circ v.circuit).state = .blocking ∧ v.role = .responder ∧ v.peerTag = some n.tag ∧
      (k = .block ∨ k = .swap ∧ n.force = false)) ∧
  ¬ (k = .bridge ∧ (s.circ v.circuit).state.hitless = true ∧ (s.circ v.circuit).state ≠ .bridging)

/-- The notice answers the pending request of kind `k` of move slot `m` and of no other (R158). -/
def Answers (s : State) (n : Notice) (k : ReqKind) (m : MoveId) (v : Move) : Prop :=
  s.move? m = some v ∧
  ∀ m' v', s.move? m' = some v' →
    ((v'.tag = n.tag ∧ v'.request.map Request.kind = some k ∧ v'.dir = n.dir ∧
      (s.info v'.circuit).slot = some n.slot) ↔ m' = m)

/-- What taking the head notice leaves: the queue's rest, no second taking in the frame, and, outside circuit `c` and move
slot `m`, every circuit and move slot as it was. -/
def TakenFor (s t : State) (c : CircuitId) (m : MoveId) : Prop :=
  t.link.inQ = s.link.inQ.tail ∧ t.link.taken = true ∧
  (∀ c', c' ≠ c → t.circ c' = s.circ c') ∧ ∀ m', m' ≠ m → t.move? m' = s.move? m'

/-- What taking the head notice leaves when it changes no circuit and no move. -/
def TakenOnly (s t : State) : Prop :=
  t.link.inQ = s.link.inQ.tail ∧ t.link.taken = true ∧ t.circuits = s.circuits ∧ t.moves = s.moves

/-- The kind octets of the requests (10.2). -/
def requestOctets : List (ReqKind × Byte) :=
  [(.block, 0x01), (.swap, 0x02), (.bridge, 0x03), (.rolled, 0x04), (.release, 0x05), (.abandon, 0x06)]

/-- The kind octets of the answers but REFUSE, each by the request it answers: BLOCKED, SWAPPED, BRIDGED, NOTED, RELEASED,
ABANDONED (10.2). -/
def answerOctets : List (ReqKind × Byte) :=
  [(.block, 0x11), (.swap, 0x12), (.bridge, 0x13), (.rolled, 0x14), (.release, 0x15), (.abandon, 0x16)]

/-- The reason octets of a REFUSE (10.2). -/
def reasonOctets : List (RefuseReason × Byte) :=
  [(.busyCall, 0x01), (.crossed, 0x02), (.direction, 0x03), (.sequence, 0x04), (.unmapped, 0x05)]

/-- Octet 0 of a notice position names the kind, and in a REFUSE octet 6 names the reason and octet 7 the kind of the
refused request (10.2). -/
def NamesKind (l : List Byte) : NoticeKind → Prop
  | .req q => (q, octetAt l 0) ∈ requestOctets
  | .ans q => (q, octetAt l 0) ∈ answerOctets
  | .refuse r d => octetAt l 0 = 0x1F ∧ (r, octetAt l 6) ∈ reasonOctets ∧ (d, octetAt l 7) ∈ requestOctets

/-- The eight octets of a notice as sent (10.2): kind, direction in bit 7 and force in bit 6 of the flags, span slot, tag,
and reason and detail, 00 but in a REFUSE. -/
def SendsNotice (l : List Byte) (n : Notice) : Prop :=
  l.length = 8 ∧ NamesKind l n.kind ∧
  ((octetAt l 1).getLsbD 7 = true ↔ n.dir = .toCopper) ∧ (octetAt l 1).getLsbD 6 = n.force ∧
  (octetAt l 1).extractLsb' 0 6 = 0 ∧
  word16 (octetAt l 2) (octetAt l 3) = BitVec.ofNat 16 n.slot.val ∧ word16 (octetAt l 4) (octetAt l 5) = n.tag ∧
  ((∀ r d, n.kind ≠ .refuse r d) → octetAt l 6 = 0 ∧ octetAt l 7 = 0)

/-- What the eight octets of a received position are taken as (R183): none where they name no kind or a slot above 511; else
the notice of their fields, the force flag examined in a SWAP request alone (in a REFUSE by the model's choice, log 43). -/
def ReadsNotice (l : List Byte) (found : Option Notice) : Prop :=
  let slot := (word16 (octetAt l 2) (octetAt l 3)).toNat
  (∀ k, NamesKind l k → slot ≤ 511 →
    ∃ n, found = some n ∧ n.kind = k ∧ (n.dir = .toCopper ↔ (octetAt l 1).getLsbD 7 = true) ∧
      (n.force = true ↔ k = .req .swap ∧ (octetAt l 1).getLsbD 6 = true) ∧ n.slot.val = slot ∧
      n.tag = word16 (octetAt l 4) (octetAt l 5)) ∧
  ((∀ k, ¬ NamesKind l k) ∨ 511 < slot → found = none)

/-- The answer to a request of kind `k`: its slot, tag and direction echoed (R149). -/
def answerTo (n : Notice) (k : ReqKind) : Notice := { n with kind := .ans k, force := false }

/-- The REFUSE of a request of kind `k`. -/
def refusalOf (n : Notice) (r : RefuseReason) (k : ReqKind) : Notice := { n with kind := .refuse r k, force := false }

/-- The outbound queue without what slot `m` owns. -/
def withoutOwned (m : MoveId) (q : List OutNotice) : List OutNotice := q.filter fun o => o.owner != some m

/-- A sending queued for slot `m` (R149, R151). -/
def sending (m : MoveId) (v : Move) (k : ReqKind) (force : Bool) (sl : SlotId) : OutNotice :=
  { notice := { kind := .req k, dir := v.dir, force := force, slot := sl, tag := v.tag }, owner := some m }

/-- A circuit stands at a rest state with that state's paths, no move slot, no direction, and depth 0 on the path not
selected (R77, R79). -/
def Circuit.restsAt (r : Circuit) (st : MoveState) : Prop :=
  r.state = st ∧ r.sel = st.restPath ∧ (r.cuTx = true ↔ st.restPath = .copper) ∧ (r.spTx = true ↔ st.restPath = .span) ∧
  r.moveSlot = none ∧ r.dir = none ∧ (st.restPath = .copper → r.spDepth = 0) ∧ (st.restPath = .span → r.cuDepth = 0)

/-- A request is newly made the pending request of a move: full tries but the one spent, the repeat timer from 0 (R153). -/
def freshRequest (s : State) (k : ReqKind) (force : Bool) : Request :=
  { kind := k, force := force, tries := s.params.tries - 1, timer := .counting 0 }

/-- A move has failed as R98 states: ABANDONING with a fault, its roll and timers gone, ABANDON its pending request, the
circuit off the alignment unit with its transmits as they were and, if it had rolled, back on the old path. -/
def FailedInto (s t : State) (m : MoveId) (v : Move) (f : FaultCode) : Prop :=
  (t.circ v.circuit).state = .abandoning ∧ (t.circ v.circuit).lastFault = some f ∧ t.pendingCause .moveFailed ∧
  ((s.circ v.circuit).state = .rolled → (t.circ v.circuit).sel = v.dir.oldPath) ∧
  (t.circ v.circuit).cuTx = (s.circ v.circuit).cuTx ∧ (t.circ v.circuit).spTx = (s.circ v.circuit).spTx ∧
  t.move? m = some { v with
    request := some (freshRequest s .abandon false), rollDue := none, progress := .stopped, quiet := .stopped,
    validity := .stopped, soak := .stopped } ∧
  (∀ e ∈ t.align.queue, e.circuit ≠ v.circuit) ∧
  ∀ i x, (t.align.corrs.get i).rec? = some x → x.circuit ≠ v.circuit

/-- The measurement record after the result of its next window (R119, R122, R123); none when the measurement ends with it:
a second UNIQUE of the candidate lag, or the eighth NONE in succession. -/
def Measure.after (x : Measure) : WindowResult → Option Measure
  | .passed | .quiet => some { x with next := x.next + 1 }
  | .multi => some { x with next := x.next + 1, cand := none, noneStreak := 0 }
  | .none =>
    if x.noneStreak = 7 then none else some { x with next := x.next + 1, cand := none, noneStreak := x.noneStreak + 1 }
  | .unique l => if x.cand = some l then none else some { x with next := x.next + 1, cand := some l, noneStreak := 0 }

/-- What a roll decision leaves (R91, R92, R124): a replay within the slew limit makes a HITLESS roll due at the next
multiframe boundary; a greater one puts the circuit in ROLL_PENDING under the quiet-wait timer. -/
def DecidedRoll (s t : State) (m : MoveId) (v : Move) (r : AlignResult) : Prop :=
  (r.replay ≤ s.params.slew →
    (t.circ v.circuit).state = .aligned ∧
    ∃ w, t.move? m = some w ∧ w.rollDue = some ⟨nextBoundary s.now, .hitless⟩ ∧ w.validity = .stopped ∧
      w.result = some r) ∧
  (s.params.slew < r.replay →
    (t.circ v.circuit).state = .rollPending ∧
    ∃ w, t.move? m = some w ∧ w.rollDue = v.rollDue ∧ w.validity = .stopped ∧ w.result = some r ∧
      w.quiet = if v.quiet = .stopped then .counting 0 else v.quiet)

/-- What the roll of kind `k` leaves (R93): the new path heard at the depth of the result, or at 0 without one, with the
code heard before frozen (R67), conditioned exactly when that path is unavailable and no restore timer (R69 to R71), and the
call state judged from the new path's code (R64); the circuit off the alignment unit, ROLLED its pending request, and the
roll kept for the last result. -/
def RolledAs (s t : State) (m : MoveId) (v : Move) (sl : SlotId) (k : RollKind) : Prop :=
  let r := s.circ v.circuit
  let trunk := s.trunk (trunkOf v.circuit)
  let depth : Byte := v.result.elim 0 AlignResult.depth
  let heardAfter : Code := if v.dir = .toSpan then r.spBack.code else r.cuBack.code
  let lineLost : Prop := (s.line.get (trunkOf v.circuit)).available = false ∨ trunk.function = .spanOnly
  OnlyMoveOf s t v.circuit m ∧
  (∃ conditioned busy : Bool,
    (conditioned = true ↔ v.dir = .toCopper ∧ lineLost) ∧
    (busy = false ↔ r.fwd.code = trunk.codes.idleOut ∧ heardAfter = trunk.codes.idleIn) ∧
    t.circ v.circuit = { r with
      state := .rolled
      sel := if v.dir = .toSpan then .span else .copper
      spDepth := if v.dir = .toSpan then depth else r.spDepth
      cuDepth := if v.dir = .toSpan then r.cuDepth else depth
      freeze := some { code := r.heard, endFrame := s.now + BitVec.ofNat 32 (16 * s.params.freezeNow) }
      conditioned := conditioned
      restore := .stopped
      busy := busy }) ∧
  t.move? m = some { v with
    request := some (freshRequest s .rolled false)
    rollDue := none
    validity := .stopped
    quiet := .stopped
    progress := if v.peerRolled then .stopped else .counting 0
    made := some { kind := k.resultKind, lag := if k = .hitless then v.result.map AlignResult.lag else none,
                   replay := v.result.elim 0 AlignResult.replay } } ∧
  (∀ e ∈ t.align.queue, e.circuit ≠ v.circuit) ∧
  (∀ i x, (t.align.corrs.get i).rec? = some x → x.circuit ≠ v.circuit) ∧
  t.link.outQ = withoutOwned m s.link.outQ ++ [sending m v .rolled false sl]

/-! Management -/

/-- The outbound queue of an entry. -/
def Mgmt.queueOf (g : Mgmt) : Entry → List OutCell
  | .slot => g.slotQ
  | .span => g.spanQ

/-- The RESPONSE cell of a request (R171). -/
def responseCell (tag target : Byte) (r : Reply) : OutCell :=
  { cell := { kind := kindResponse, tag := tag, target := target, status := r.status, body := r.body },
    restart := r.restart }

/-- A powered device takes requests on an entry and serves them (R168, R175, R182), and the entry's outbound queue has room
for a response and an EVENT cell. -/
abbrev EntryReady (s : State) (e : Entry) : Prop :=
  s.dev.powered = true ∧ s.mgmt.restart = .idle ∧ (e = .slot → s.slotEntryOpen = true ∧ waiting s = false) ∧
  (s.mgmt.queueOf e).length + 1 < cellQueueSize

/-- The state with one cell more at the tail of an entry's queue, and nothing else changed. -/
def State.queued (s : State) (e : Entry) (c : OutCell) : State :=
  match e with
  | .slot => { s with mgmt := { s.mgmt with slotQ := s.mgmt.slotQ ++ [c] } }
  | .span => { s with mgmt := { s.mgmt with spanQ := s.mgmt.spanQ ++ [c] } }

/-- The state with one cell more counted as discarded on an entry, and nothing else changed. -/
def State.discarding (s : State) (e : Entry) : State :=
  match e with
  | .slot => { s with mgmt := { s.mgmt with slotDiscards := bump s.mgmt.slotDiscards } }
  | .span => { s with mgmt := { s.mgmt with spanDiscards := bump s.mgmt.spanDiscards } }

/-- The state with the response to a request with target LOCAL queued, and nothing else changed. -/
def State.answered (s : State) (e : Entry) (tag : Byte) (r : Reply) : State := s.queued e (responseCell tag targetLocal r)

/-- The response to a request is the last cell of its entry's queue. -/
def Answered (t : State) (e : Entry) (tag : Byte) (r : Reply) : Prop :=
  (t.mgmt.queueOf e).getLast? = some (responseCell tag targetLocal r)

/-- The body lengths of the requests but SET-PARAMETERS, by code (10.6). -/
def requestLengths : List (Byte × Nat) :=
  [(0x01, 3), (0x02, 5), (0x03, 8), (0x04, 6), (0x05, 4), (0x06, 3), (0x07, 7), (0x08, 1), (0x0A, 7), (0x0B, 2), (0x0C, 2),
    (0x0D, 3), (0x0E, 3), (0x0F, 3), (0x10, 3), (0x11, 1)]

/-- A body whose first octet names a request and whose length is the one that the request takes (10.3, 10.6). -/
def RequestShape (b : List Byte) : Prop :=
  b ≠ [] ∧ ((octetAt b 0, b.length) ∈ requestLengths ∨
    octetAt b 0 = 0x09 ∧ ∃ n, 1 ≤ n ∧ n ≤ 18 ∧ b.length = 1 + 3 * n)

/-- The entry, the tag and the body of the cell in which a request row arrives (10.6); `spare` gives the octets that a form
does not use, by place. None for a row that is no request. -/
def requestBody (i : Instr) (spare : Nat → Byte) : Option (Entry × Byte × List Byte) :=
  let hi (w : Word16) : Byte := w.extractLsb' 8 8
  let lo (w : Word16) : Byte := w.extractLsb' 0 8
  match i with
  | .status e tag part start => some (e, tag, [0x01, part, start])
  | .readCircuitsRange e tag trunk first last => some (e, tag, [0x02, 0x00, trunk, first, last])
  | .readCircuitsSlot e tag slot => some (e, tag, [0x02, 0x01, hi slot, lo slot, spare 4])
  | .setCircuit e tag trunk channel slot policy rollOnCommand pin =>
    some (e, tag, [0x03, trunk, channel, hi slot, lo slot, policy, rollOnCommand, pin])
  | .fillBlock e tag trunk block ordering key policy => some (e, tag, [0x04, trunk, block, ordering, key, policy])
  | .move e tag trunk channel => some (e, tag, [0x05, trunk, channel, 0x01])
  | .ret e tag trunk channel => some (e, tag, [0x05, trunk, channel, 0x02])
  | .roll e tag trunk channel => some (e, tag, [0x05, trunk, channel, 0x03])
  | .release e tag trunk channel => some (e, tag, [0x05, trunk, channel, 0x04])
  | .abandon e tag trunk channel => some (e, tag, [0x05, trunk, channel, 0x05])
  | .pin e tag trunk channel => some (e, tag, [0x05, trunk, channel, 0x06])
  | .unpin e tag trunk channel => some (e, tag, [0x05, trunk, channel, 0x07])
  | .unblock e tag trunk channel => some (e, tag, [0x05, trunk, channel, 0x08])
  | .readTrunk e tag trunk clearing => some (e, tag, [0x06, trunk, clearing])
  | .setTrunkFunction e tag trunk function => some (e, tag, [0x07, trunk, 0x01, function, spare 4, spare 5, spare 6])
  | .setTrunkCodes e tag trunk named idle blocking vacant => some (e, tag, [0x07, trunk, 0x02, named, idle, blocking, vacant])
  | .insert e tag trunk => some (e, tag, [0x07, trunk, 0x03, spare 3, spare 4, spare 5, spare 6])
  | .withdraw e tag trunk => some (e, tag, [0x07, trunk, 0x04, spare 3, spare 4, spare 5, spare 6])
  | .readParameters e tag => some (e, tag, [0x08])
  | .setParameters e tag entries => some (e, tag, 0x09 :: entries.flatMap fun x => [x.1, hi x.2, lo x.2])
  | .postOrder e tag trunk first last direction deadline =>
    some (e, tag, [0x0A, trunk, first, last, direction, hi deadline, lo deadline])
  | .cancelOrder e tag number => some (e, tag, [0x0B, number])
  | .removeOrder e tag number => some (e, tag, [0x0C, number])
  | .readOrders e tag flags number => some (e, tag, [0x0D, flags, number])
  | .clearCauses e tag mask => some (e, tag, [0x0E, hi mask, lo mask])
  | .setEnables e tag mask => some (e, tag, [0x0F, hi mask, lo mask])
  | .readCounters e tag group clearing => some (e, tag, [0x10, group, clearing])
  | .restart e tag => some (e, tag, [0x11])
  | _ => none

/-- The 64 octets of a good cell (10.3, R171): start word, and CRC-16 over octets 2 to 61. -/
abbrev GoodCell (l : List Byte) : Prop :=
  l.length = 64 ∧ octetAt l 0 = 0xE1 ∧ octetAt l 1 = 0x4B ∧
  word16 (octetAt l 62) (octetAt l 63) = crc16 ((l.drop 2).take 60)

/-- What taking a good cell `l` on entry `e` answers, in the state `u` that is left once the cell is taken off the entry (R171,
R175, R184; 10.3 and 10.6). An IDLE cell does nothing. A REQUEST that its body names a row for is that row; with target PEER
on the slot entry it is PROXY_REQUEST; a RESPONSE on the span entry is PROXY_RESPONSE. A REQUEST is refused with BUSY (4C)
while a proxy in WAIT mode is outstanding, with BAD_TARGET (42) or with BAD_REQUEST (41). Every other cell is discarded and
counted. -/
def CellAnswered (e : Entry) (l : List Byte) (u : State) (r : Host.Outcome State Fault Refusal) : Prop :=
  let kind := octetAt l 2
  let tag := octetAt l 3
  let target := octetAt l 4
  let len := (octetAt l 6).toNat
  let body := (l.drop 7).take len
  let waits := e = .slot ∧ ∃ p, u.mgmt.proxy = some p ∧ p.mode = .wait
  let refused (status : Byte) : Prop := (u.mgmt.queueOf e).length < 16 →
    ∃ code, (len ≠ 0 → code = octetAt l 7) ∧
      r = .next (u.queued e
        { cell := { kind := 0x02, tag := tag, target := target, status := status, body := [code] }, restart := false })
  (kind = 0x00 → r = .next u) ∧
  (kind = 0x01 →
    (waits → refused 0x4C) ∧
    (¬ waits → 0x01 < target.toNat ∨ (e = .span ∧ target = 0x01) → refused 0x42) ∧
    (¬ waits → target = 0x00 ∨ (e = .slot ∧ target = 0x01) → 55 < len ∨ ¬ RequestShape body → refused 0x41) ∧
    (target = 0x00 → len ≤ 55 → ∀ i spare, i.wellFormed = true → requestBody i spare = some (e, tag, body) → r = exec i u) ∧
    (e = .slot → target = 0x01 → 1 ≤ len → len ≤ 55 → r = exec (.proxyRequest tag body) u)) ∧
  (kind = 0x02 → e = .span → len ≤ 55 → r = exec (.proxyResponse tag (octetAt l 5) body) u) ∧
  ((kind = 0x02 ∧ (e = .slot ∨ 55 < len)) ∨ 0x03 ≤ kind.toNat → r = .next (u.discarding e))

/-- The ranges of the clamped parameters of 10.5. -/
def clampedRanges : List (ParamId × Nat × Nat) :=
  [(.degrade, 1, 1000), (.persistence, 2, 8), (.freeze, 2, 16), (.restore, 1, 60), (.peerProgress, 5, 300),
    (.quietWait, 1, 120), (.validity, 1, 10), (.soak, 0, 3600), (.distinct, 2, 8), (.slew, 0, 32), (.alignTimeout, 1, 60),
    (.tries, 1, 15), (.preset, 0, 3), (.onMark, 1, 64), (.proxyTimeout, 1, 10)]

/-- The command of MOVE or RETURN by its direction. -/
def beginRow (d : Dir) (e : Entry) (tag trunk channel : Byte) : Instr :=
  match d with
  | .toSpan => .move e tag trunk channel
  | .toCopper => .ret e tag trunk channel

end Sys2Proof.Machine
end

