-- ==== Sys2Proof/Certificates/Slice0/Obligations.lean ====
section
/-! DEFINITION. The statements for the provers. Each is over every state unless its hypotheses say otherwise. -/
open Sys2Proof Sys2Proof.Machine

/-! The queue, power and reset -/

/-- A step runs the command at the front of the queue on the state with the queue's rest; with an empty queue the block
idles (log 1). Every command answers a next state, and none touches the queue (log 31). -/
def Obligations.StepRunsFrontOfQueue : Prop :=
  (∀ s : State,
    (s.pending = [] → step s = .next s) ∧
    ∀ c rest, s.pending = c :: rest → step s = exec c (s.behind rest)) ∧
  ∀ (c : Instr) (s : State), ∃ t, exec c s = .next t ∧ t.pending = s.pending

/-- R20 to R22: a device reset samples the straps, which fix END, HOLD, management entry, management channel and reference
port; the sampled values hold until the next device reset.
Choice of the model: SITE_FRAME keeps them even where it takes a RESTART's due reset (log 10). -/
def Obligations.StrapsSampledAtReset : Prop :=
  (∀ (pins : Straps) (s : State), ∃ t, exec (.deviceReset pins) s = .next t ∧ t.dev.straps = pins ∧
    (pins.site = 0b01 → strapEnd t.dev.straps = some .a ∧ t.dev.devState = .starting) ∧
    (pins.site = 0b10 → strapEnd t.dev.straps = some .b ∧ t.dev.devState = .starting) ∧
    (pins.site = 0b00 ∨ pins.site = 0b11 → strapEnd t.dev.straps = none ∧ t.dev.devState = .hold) ∧
    (∀ k, strapMgmtTrunk t.dev.straps = some k ↔ pins.mgmt.toNat = k.val) ∧
    (strapMgmtTrunk t.dev.straps = none ↔ 16 ≤ pins.mgmt.toNat) ∧
    (pins.mslot = 0 → strapMgmtChannel t.dev.straps = 31) ∧
    (pins.mslot = 1 → strapMgmtChannel t.dev.straps = 15) ∧
    t.timing.refPort.val = pins.ref.toNat) ∧
  (∀ (pins : Straps) (s : State), s.dev.powered = true → s.mgmt.restart = .due →
    ∃ t, exec (.restartReset pins) s = .next t ∧ t.dev.straps = pins) ∧
  ∀ (c : Instr) (s t : State), (∀ pins, c ≠ .deviceReset pins) → (∀ pins, c ≠ .restartReset pins) →
    exec c s = .next t → t.dev.straps = s.dev.straps

/-- DEVICE_RESET leaves the values of the "After device reset" tables and of 10.5 (R12, R13, R15, R16, R20, R22, R32, R58,
R59, R63, R77, R78, R111, R112, R133, R134, R141, R166, 09): for every state and every level on the straps.
Choices of the model: no frame composed and no slot cell begun yet (log 8), no deletion kept (log 5), no function to come (log
16). -/
def Obligations.DeviceResetValues : Prop :=
  ∀ (pins : Straps) (s : State), ∃ t, exec (.deviceReset pins) s = .next t ∧
    t.dev.powered = true ∧ (t.dev.devState = .hold ↔ pins.site = 0b00 ∨ pins.site = 0b11) ∧
    (t.dev.devState = .starting ↔ pins.site = 0b01 ∨ pins.site = 0b10) ∧
    t.timing.count = 0 ∧ t.timing.holdover = true ∧ t.timing.qual = 0 ∧ t.timing.refPort.val = pins.ref.toNat ∧
    t.params =
      { degrade := 80, persistence := 3, freeze := 4, restore := 10, peerProgress := 90, quietWait := 30, validity := 2,
        soak := 60, window := 32, distinct := 4, slew := 8, alignTimeout := 20, repeatMs := 50, tries := 6, preset := 0,
        onMark := 48, offMark := 16, proxyMode := .wait, proxyTimeout := 3, persistenceNow := 3, freezeNow := 4 } ∧
    (∀ k, (t.trunk k).function = .trunk ∧ (t.trunk k).coming = none ∧ (t.trunk k).bypass = true ∧ (t.trunk k).settle = 0 ∧
      (t.trunk k).insertion = (if strapMgmtTrunk pins = some k then .acquiring else .bypassed) ∧
      (t.trunk k).codes =
        { idleOut := 0b1001, idleIn := 0b1001, blocking := 0b1101, conditioning := 0b1111, vacant := 0xD5 }) ∧
    (∀ p, (t.port p).align = .search ∧ (t.port p).mf = .search ∧ (t.port p).los = false ∧ (t.port p).ais = false ∧
      (t.port p).available = false ∧ (t.port p).far = false ∧ (t.port p).store = [] ∧ (t.port p).slips = 0) ∧
    (t.span.align = .search ∧ t.span.los = false ∧ t.span.rxNumber = none ∧ t.span.store = [] ∧ t.span.interval = 0 ∧
      t.span.errCount = 0 ∧ t.span.streak = 0 ∧ t.span.degrade = false ∧ t.span.errored = 0 ∧ t.span.slips = 0 ∧
      t.span.peerState = none ∧ t.span.peerEnd = none ∧ t.span.peerHoldOff = false ∧ t.span.peerFarFault = false ∧
      t.span.present = false ∧ t.span.runningRun = 0 ∧ t.span.otherRun = 0 ∧ t.span.conflict = false ∧
      t.span.sameRun = 0 ∧ t.span.differRun = 0 ∧ t.span.usable = false) ∧
    (∀ c, (t.info c).slot = none ∧ (t.info c).policy = .auto ∧ (t.info c).rollOnCommand = false ∧
      (t.info c).pin = false ∧ ((t.info c).mgmt = true ↔ strapMgmtCircuit pins = some c)) ∧
    (∀ sl, t.map.directory.get sl = none) ∧
    (∀ c, (t.circ c).state = .home ∧ (t.circ c).dir = none ∧ (t.circ c).sel = .copper ∧
      ((t.circ c).cuTx = true ↔ strapMgmtCircuit pins ≠ some c) ∧ (t.circ c).spTx = false ∧ (t.circ c).blocked = false ∧
      (t.circ c).cuDepth = 0 ∧ (t.circ c).spDepth = 0 ∧ (t.circ c).moveSlot = none ∧ (t.circ c).order = none ∧
      (t.circ c).lastFault = none ∧ (t.circ c).lastResult = none ∧ (t.circ c).busy = false ∧
      ((t.circ c).conditioned = true ↔ strapMgmtCircuit pins ≠ some c) ∧ (t.circ c).restore = .stopped ∧
      (t.circ c).fwd = { code := 0b1001, cand := none, count := 0 } ∧
      (t.circ c).cuBack = { code := 0b1001, cand := none, count := 0 } ∧
      (t.circ c).spBack = { code := 0b1001, cand := none, count := 0 } ∧ (t.circ c).spLast = none ∧
      (t.circ c).freeze = none) ∧
    (∀ m, t.move? m = none) ∧ t.moves.tagCounter = 0 ∧
    (∀ row, (∀ k ch, ((t.align.history.get row).copper.get k).get ch = 0xFF) ∧
      ∀ sl, (t.align.history.get row).span.get sl = 0xFF) ∧
    (∀ k, t.align.copperMark.get k = 0 ∧ t.align.copperDeleted.get k = false) ∧ t.align.spanMark = 0 ∧
    t.align.spanDeleted = false ∧ t.align.queue = [] ∧
    (∀ i, (t.align.corrs.get i).rec? = none) ∧
    t.orders.list = [] ∧ t.orders.counter = 0 ∧ t.orders.turn = none ∧
    t.link.outQ = [] ∧ t.link.inQ = [] ∧ t.link.holdOff = false ∧ t.link.answersDropped = 0 ∧
    t.link.inboundDrops = 0 ∧ t.link.stale = 0 ∧
    t.slotEntryOpen = false ∧ t.mgmt.slotTx = none ∧ t.mgmt.slotRx = { locked := false, bad := 0, buf := [] } ∧
    t.mgmt.spanTx.octets = encodeCell idleCell ∧ t.mgmt.restart = .idle ∧ t.mgmt.slotQ = [] ∧ t.mgmt.spanQ = [] ∧ t.mgmt.slotDiscards = 0 ∧
    t.mgmt.spanDiscards = 0 ∧ t.mgmt.proxy = none ∧ t.mgmt.proxyTagCounter = 0 ∧ t.mgmt.eventCounter = 0 ∧
    t.mgmt.causes = 0 ∧ t.mgmt.enables = 0 ∧ t.mgmt.attention = false ∧ t.tx = none

/-- An unpowered device stands still under every command but a device reset and a further loss of supply (log 30).
RESTART_RESET is a device reset once RESTART's response has gone, and nothing before (R182). DEVICE_UNPOWERED asserts every
bypass output (R16), sends no frame, and leaves the rest as it stands (log 30). -/
def Obligations.RestartResetAndLossOfSupply : Prop :=
  (∀ (c : Instr) (s : State),
    s.dev.powered = false → (∀ pins, c ≠ .deviceReset pins) → c ≠ .deviceUnpowered → exec c s = .next s) ∧
  (∀ (pins : Straps) (s : State), s.dev.powered = true →
    (s.mgmt.restart = .due → exec (.restartReset pins) s = .next (State.resetWith pins s.pending)) ∧
    (s.mgmt.restart ≠ .due → exec (.restartReset pins) s = .next s)) ∧
  ∀ s : State, ∃ t, exec .deviceUnpowered s = .next t ∧ t.dev.powered = false ∧ t.tx = none ∧
    (∀ k, t.trunk k = { s.trunk k with bypass := true }) ∧
    t = { s with dev := { s.dev with powered := false }, trunks := t.trunks, tx := none }

/-! The frame of site timing and what it sends -/

/-- SITE_FRAME (R12, R111): unless a RESTART's reset is due, the count advances by one, the frame in course is sent as
composed from the state in which all its due steps are behind it (log 2), and what the stores deliver in the new frame is
the new frame's row of the history store, whose other 511 rows stand. -/
def Obligations.SiteFrameCountsSendsAndKeepsHistory : Prop :=
  ∀ s : State, s.dev.powered = true → s.mgmt.restart ≠ .due →
    ∃ t, exec .siteFrame s = .next t ∧
      t.timing.count = s.timing.count + 1 ∧
      t.tx = some (composeAll (takeDue s)) ∧
      t.align.history.get (rowIndex t.timing.count) =
        { copper := t.line.map PortRx.delivered, span := t.span.delivered } ∧
      ∀ i, i ≠ rowIndex t.timing.count → t.align.history.get i = s.align.history.get i

/-- SITE_FRAME, the new frame: every store is read once (R6, R7, R34, R35); P and F as set act (R75); the settle,
qualification and degrade counts and every timer count the frame (R13, R18, R32, R71, R78, R117, R144, R153, R176); a trunk
function set before takes effect (R15, R61, R69, R70); the notice positions take the head of the outbound queue or stay
EMPTY (R152); in a frame whose number is a multiple of 8 the next span cell is taken (R170); the slot entry sends and takes
one octet (R168, R169); and a RESTART whose response has gone makes its reset due (R182).
Here `u` is the state in which the frame's due steps are behind it. The clauses about circuits, moves, measurements and
positions are for a frame in which no function changes and no store of copper or span slips.
Choices of the model: where SITE_FRAME is cut (logs 2 and 15), the frame of a deletion (log 5), what a coming function is
(log 16), and that out of ALIGNED a store keeps the frames not read (log 40). -/
def Obligations.SiteFrameOpensTheNextFrame : Prop :=
  (∀ limit n : Nat,
    Timer.tick limit (.counting n) = (if limit ≤ n + 1 then .due (n + 1) else .counting (n + 1)) ∧
    Timer.tick limit .stopped = .stopped ∧ Timer.tick limit (.due n) = .due n ∧ Timer.tick limit (.expired n) = .expired n ∧
    Timer.tickOn limit (.expired n) = .expired (n + 1) ∧
    ∀ x : Timer, x.isExpired = false → Timer.tickOn limit x = Timer.tick limit x) ∧
  ∀ s : State, s.dev.powered = true → s.mgmt.restart ≠ .due →
    let u := takeDue s
    ∃ t, exec .siteFrame s = .next t ∧
      (∀ p,
        ((u.port p).align ≠ .aligned → t.port p = { u.port p with delivered := ffFrame }) ∧
        ((u.port p).align = .aligned → ∀ f rest, (u.port p).store = f :: rest →
          t.port p = { u.port p with store := rest, lastRead := f.octets, delivered := f.octets }) ∧
        ((u.port p).align = .aligned → (u.port p).store = [] →
          t.port p = { u.port p with delivered := (u.port p).lastRead, slips := bump (u.port p).slips })) ∧
      (u.span.align ≠ .aligned → t.span.delivered = ffSpan ∧ t.span.store = u.span.store) ∧
      (u.span.align = .aligned → ∀ f rest, u.span.store = f :: rest →
        t.span.delivered = f ∧ t.span.lastRead = f ∧ t.span.store = rest ∧ t.span.slips = u.span.slips) ∧
      (u.span.align = .aligned → u.span.store = [] →
        t.span.delivered = u.span.lastRead ∧ t.span.slips = bump u.span.slips) ∧
      t.params = { u.params with persistenceNow := u.params.persistence, freezeNow := u.params.freeze } ∧
      t.timing.qual = (if (u.sw.get u.timing.refPort).available = true ∧ u.timing.qual < 8000 then u.timing.qual + 1
        else u.timing.qual) ∧
      (t.span.interval = if u.span.interval + 1 = 8000 then 0 else u.span.interval + 1) ∧
      (u.span.interval + 1 = 8000 → t.span.intervalEnd = true) ∧
      (u.span.interval + 1 ≠ 8000 → t.span.intervalEnd = u.span.intervalEnd) ∧
      t.span.alignedThroughout = (u.span.alignedThroughout && u.span.align = .aligned) ∧
      (∀ k,
        let r : Trunk := { u.trunk k with function := (u.trunk k).coming.getD (u.trunk k).function, coming := none }
        t.trunk k =
          if r.insertion = .acquiring ∧ (u.sw.get k).available = true ∧ (u.line.get k).available = true ∧ r.settle < 8000
          then { r with settle := r.settle + 1 } else r) ∧
      (∀ k f c, (u.trunk k).coming = some f → trunkOf c = k → (u.circ c).sel = .copper → (u.info c).mgmt = false →
        (∀ m v, u.move? m = some v → trunkOf v.circuit ≠ k) →
        (f = .spanOnly → (u.trunk k).function ≠ .spanOnly →
          (t.circ c).conditioned = true ∧
          (t.circ c).cuBack = { code := (u.circ c).cuBack.code, cand := none, count := 0 }) ∧
        (f ≠ .spanOnly → (u.trunk k).function = .spanOnly → (u.line.get k).available = true →
          (t.circ c).conditioned = false)) ∧
      (t.mgmt.proxy = u.mgmt.proxy.map fun p => { p with timer := p.timer.tick (u.params.proxyTimeout * 8000) }) ∧
      (t.timing.count.toNat % 8 = 0 →
        (u.mgmt.spanQ = [] → t.mgmt.spanTx = { octets := encodeCell idleCell, restart := false } ∧ t.mgmt.spanQ = []) ∧
        ∀ c rest, u.mgmt.spanQ = c :: rest →
          t.mgmt.spanTx = { octets := encodeCell c.cell, restart := c.restart } ∧ t.mgmt.spanQ = rest) ∧
      (t.timing.count.toNat % 8 ≠ 0 → t.mgmt.spanTx = u.mgmt.spanTx ∧ t.mgmt.spanQ = u.mgmt.spanQ) ∧
      (u.slotEntryOpen = false → t.mgmt.slotRx = u.mgmt.slotRx ∧ t.mgmt.slotTx = u.mgmt.slotTx) ∧
      (u.slotEntryOpen = true →
        (t.mgmt.slotTx = u.mgmt.slotTx.map fun x => { x with sent := x.sent + 1 }) ∧
        ∀ k c, strapMgmtTrunk u.dev.straps = some k → strapMgmtCircuit u.dev.straps = some c →
          let o := if (u.sw.get k).align = .aligned then (t.sw.get k).delivered.get (channelPos c) else 0xFF
          (u.mgmt.slotRx.locked = true → t.mgmt.slotRx = { u.mgmt.slotRx with buf := u.mgmt.slotRx.buf ++ [o] }) ∧
          (u.mgmt.slotRx.locked = false →
            t.mgmt.slotRx = { u.mgmt.slotRx with buf := trimHunt (u.mgmt.slotRx.buf ++ [o]) })) ∧
      (t.mgmt.restart =
        if u.mgmt.restart = .dropped ∨ (u.mgmt.spanTx.restart = true ∧ u.now.toNat % 8 = 7) ∨
          (u.slotEntryOpen && u.mgmt.slotTx.any fun x => x.restart && x.sent + 1 = 64) = true
        then .due else u.mgmt.restart) ∧
      ((∀ k, (u.trunk k).coming = none ∧ u.align.copperDeleted.get k = false) → u.align.spanDeleted = false →
        (∀ k, (u.line.get k).align = .aligned → (u.line.get k).store ≠ []) →
        (u.span.align = .aligned → u.span.store ≠ []) →
        (∀ c, t.circ c = { u.circ c with
          heard := (match (u.circ c).freeze with
            | some f => f.code
            | none => if (u.circ c).sel = .copper then (u.circ c).cuBack.code else (u.circ c).spBack.code)
          restore := if (u.circ c).sel = .span ∧ u.span.usable = true ∧ (u.circ c).conditioned = true then
            (u.circ c).restore.tick (u.params.restore * 8000) else (u.circ c).restore }) ∧
        (∀ m, t.move? m = (u.move? m).map fun v => { v with
          tested := false
          request := v.request.map fun q => { q with timer := q.timer.tick (u.params.repeatMs * 8) }
          progress := v.progress.tick (u.params.peerProgress * 8000)
          quiet := v.quiet.tick (u.params.quietWait * 8000)
          validity := v.validity.tick (u.params.validity * 8000)
          soak := v.soak.tick (u.params.soak * 8000) }) ∧
        (∀ i, t.align.corrs.get i = { justFreed := false, rec? := (u.align.corrs.get i).rec?.map fun x =>
          { x with timeout := x.timeout.tick (u.params.alignTimeout * 8000) } }) ∧
        (t.align.queue = u.align.queue.map fun e => { e with fresh := false }) ∧
        (t.orders.list = u.orders.list.map fun o =>
          { o with timer := o.timer.tickOn ((o.deadline.elim 0 BitVec.toNat) * 8000) }) ∧
        t.orders.stage = .promotion ∧ t.orders.turn = u.orders.turn ∧
        t.link.taken = false ∧ t.link.inQ = u.link.inQ ∧
        (u.span.usable = true → u.span.peerHoldOff = false →
          t.link.txFirst = (u.link.outQ[0]?).map OutNotice.notice ∧
          t.link.txSecond = (u.link.outQ[1]?).map OutNotice.notice ∧ t.link.outQ = u.link.outQ.drop 2) ∧
        (u.span.usable = false ∨ u.span.peerHoldOff = true →
          t.link.txFirst = none ∧ t.link.txSecond = none ∧ t.link.outQ = u.link.outQ))

/-- R9, Sk: slot 0 and slot 16 by the site frame count, and in each channel the octet and the code presented to the switch.
R9 to R11, Lk: all ones on a SPAN_ONLY trunk; else slot 0 and slot 16 by the site frame count, and in each channel the switch
sample and the forward code while copper transmit is on, the vacant octet and the idle-out code while it is off. The switch
sample is FF while Sk is not frame-aligned. -/
def Obligations.E1FramesComposed : Prop :=
  (∀ (s : State) (k : TrunkId), (composeAll s).sw.get k = composeSwitch s k ∧
    (s.now.toNat % 2 = 0 → (composeSwitch s k).get 0 = 0x9B) ∧
    (s.now.toNat % 2 = 1 → (composeSwitch s k).get 0 = if (s.sw.get k).align = .aligned then 0xDF else 0xFF) ∧
    (s.now.toNat % 16 = 0 → (composeSwitch s k).get 16 = 0x0F) ∧
    ∀ c, trunkOf c = k →
      (composeSwitch s k).get (channelPos c) = heardOctet s c ∧
      (s.now.toNat % 16 ≠ 0 → channelOf c = s.now.toNat % 16 →
        upperCode ((composeSwitch s k).get 16) = heardCode s c) ∧
      (s.now.toNat % 16 ≠ 0 → channelOf c = s.now.toNat % 16 + 16 →
        lowerCode ((composeSwitch s k).get 16) = heardCode s c)) ∧
  ∀ (s : State) (k : TrunkId), (composeAll s).line.get k = composeLine s k ∧
    ((s.trunk k).function = .spanOnly → ∀ p, (composeLine s k).get p = 0xFF) ∧
    ((s.trunk k).function ≠ .spanOnly →
      (s.now.toNat % 2 = 0 → (composeLine s k).get 0 = 0x9B) ∧
      (s.now.toNat % 2 = 1 → (composeLine s k).get 0 = if (s.line.get k).align = .aligned then 0xDF else 0xFF) ∧
      (s.now.toNat % 16 = 0 → (composeLine s k).get 16 = 0x0F) ∧
      ∀ c, trunkOf c = k →
        (composeLine s k).get (channelPos c) =
          (if (s.circ c).cuTx then
            (if (s.sw.get k).align = .aligned then (s.sw.get k).delivered.get (channelPos c) else 0xFF)
          else (s.trunk k).codes.vacant) ∧
        (s.now.toNat % 16 ≠ 0 → channelOf c = s.now.toNat % 16 →
          upperCode ((composeLine s k).get 16) =
            if (s.circ c).cuTx then (s.circ c).fwd.code else (s.trunk k).codes.idleOut) ∧
        (s.now.toNat % 16 ≠ 0 → channelOf c = s.now.toNat % 16 + 16 →
          lowerCode ((composeLine s k).get 16) =
            if (s.circ c).cuTx then (s.circ c).fwd.code else (s.trunk k).codes.idleOut))

/-- R65 with R20: the bearer octet and the backward code presented to the switch, by the first case that applies; the
consumed management channel carries the next octet of the agent's cell and the blocking code.
Choice of the model: the octet 0 while no cell has begun (log 8). -/
def Obligations.SwitchHearsFirstCaseThatApplies : Prop :=
  ∀ (s : State) (c : CircuitId),
    let r := s.circ c
    let codes := (s.trunk (trunkOf c)).codes
    (consumed s c = true → heardCode s c = codes.blocking ∧
      (∀ x, s.mgmt.slotTx = some x → heardOctet s c = octetAt x.octets x.sent) ∧
      (s.mgmt.slotTx = none → heardOctet s c = 0)) ∧
    (consumed s c = false →
      (r.conditioned = true → heardOctet s c = codes.vacant ∧ heardCode s c = codes.conditioning) ∧
      (r.conditioned = false →
        heardOctet s c = histOctet s c r.sel (s.now - BitVec.ofNat 32 (r.depth r.sel).toNat) ∧
        (r.blocked = true → heardCode s c = codes.blocking) ∧
        (r.blocked = false → ∀ f, r.freeze = some f → heardCode s c = f.code) ∧
        (r.blocked = false → r.freeze = none → r.sel = .copper → heardCode s c = r.cuBack.code) ∧
        (r.blocked = false → r.freeze = none → r.sel = .span → heardCode s c = r.spBack.code)))

/-- R36: the peer status octet that every span frame carries, and its fields, coded as in 10.1, taken from the state in
which the frame is sent. -/
def Obligations.PeerStatusOctet : Prop :=
  ∀ s : State,
    octetAt (composeAll s).span 6 = peerStatus s ∧
    ((peerStatus s).extractLsb' 6 2 =
      match s.dev.devState with
      | .starting => 0
      | .running => 1
      | .hold => 2) ∧
    ((peerStatus s).extractLsb' 4 2 =
      match strapEnd s.dev.straps with
      | none => 0
      | some .a => 1
      | some .b => 2) ∧
    (peerStatus s).getLsbD 3 = s.link.holdOff ∧
    ((peerStatus s).getLsbD 2 = true ↔ s.span.align ≠ .aligned ∨ s.span.degrade = true) ∧
    (peerStatus s).extractLsb' 0 2 = 0

/-- R24, R25, R29: the span frame's 561 octets in their places: the alignment word, the frame number modulo 65536, the peer
status, the eight octets of the cell's piece, the two notice positions, the codes of 32 slots, the 512 channel octets and the
CRC-16 of all but the word (generator x^16 + x^12 + x^5 + 1, preset FFFF, most significant bit first, not inverted); and what
a slot carries, from the circuit that the directory names.
10.2, R149: a notice position carries the kind, flags, slot, tag, reason and detail of its notice, coded as `SendsNotice`
says; an EMPTY one, as each is while the span is not usable, is zeros. -/
def Obligations.SpanFrameComposed : Prop :=
  (crc16 [] = 0xFFFF ∧ ∀ (l : List Byte) (o : Byte),
    crc16 (l ++ [o]) = [7, 6, 5, 4, 3, 2, 1, 0].foldl (fun (r : Word16) (i : Nat) =>
      if r.getLsbD 15 = o.getLsbD i then r <<< 1 else (r <<< 1) ^^^ 0x1021) (crc16 l)) ∧
  (∀ (f : Frame) (j : Fin 32), (sectionSlot f j).val = 32 * (f.toNat % 16) + j.val) ∧
  (∀ s : State, s.mgmt.spanTx.octets.length = 64 →
    (composeAll s).span = composeSpan s ∧
    (composeSpan s).length = 561 ∧
    (composeSpan s).take 4 = [0x3C, 0xA5, 0x5A, 0xC3] ∧
    word16 (octetAt (composeSpan s) 4) (octetAt (composeSpan s) 5) = BitVec.ofNat 16 s.now.toNat ∧
    octetAt (composeSpan s) 6 = peerStatus s ∧
    ((composeSpan s).drop 7).take 8 = (s.mgmt.spanTx.octets.drop (8 * (s.now.toNat % 8))).take 8 ∧
    (∀ place notice, (place, notice) ∈ [(15, s.link.txFirst), (23, s.link.txSecond)] →
      (s.span.usable = false ∨ notice = none → ((composeSpan s).drop place).take 8 = [0, 0, 0, 0, 0, 0, 0, 0]) ∧
      ∀ n, s.span.usable = true → notice = some n → SendsNotice (((composeSpan s).drop place).take 8) n) ∧
    (∀ i : Fin 16,
      upperCode (octetAt (composeSpan s) (31 + i.val)) = spanCode s (sectionSlot s.now ⟨2 * i.val, by omega⟩) ∧
      lowerCode (octetAt (composeSpan s) (31 + i.val)) = spanCode s (sectionSlot s.now ⟨2 * i.val + 1, by omega⟩)) ∧
    (∀ sl : SlotId, octetAt (composeSpan s) (47 + sl.val) = spanOctet s sl) ∧
    word16 (octetAt (composeSpan s) 559) (octetAt (composeSpan s) 560) = crc16 (((composeSpan s).drop 4).take 555)) ∧
  ∀ (s : State) (sl : SlotId),
    (s.map.directory.get sl = none → spanOctet s sl = 0xD5 ∧ spanCode s sl = 0b1001) ∧
    ∀ c, s.map.directory.get sl = some c →
      ((s.circ c).spTx = true →
        spanOctet s sl =
          (if (s.sw.get (trunkOf c)).align = .aligned then (s.sw.get (trunkOf c)).delivered.get (channelPos c)
          else 0xFF) ∧
        spanCode s sl = (s.circ c).fwd.code) ∧
      ((s.circ c).spTx = false →
        spanOctet s sl = (s.trunk (trunkOf c)).codes.vacant ∧ spanCode s sl = (s.trunk (trunkOf c)).codes.idleOut)

/-- R6, R7, R34, R35: one read of a store. Aligned, it delivers the oldest frame, or the frame last read again, which is
a slip; not aligned, it delivers FF in every octet.
Choice of the model: that the store is left as it is out of ALIGNED (log 40). -/
def Obligations.StoreReads : Prop :=
  (∀ (p : PortId) (s : State),
    ((s.port p).align ≠ .aligned → (readPort p s).port p = { s.port p with delivered := ffFrame }) ∧
    ((s.port p).align = .aligned → ∀ f rest, (s.port p).store = f :: rest →
      (readPort p s).port p = { s.port p with store := rest, lastRead := f.octets, delivered := f.octets }) ∧
    ((s.port p).align = .aligned → (s.port p).store = [] →
      (readPort p s).port p = { s.port p with delivered := (s.port p).lastRead, slips := bump (s.port p).slips } ∧
      (portSilent s p = false → (readPort p s).pendingCause .slip))) ∧
  ∀ s : State,
    (s.span.align ≠ .aligned → (readSpan s).span = { s.span with delivered := ffSpan }) ∧
    (s.span.align = .aligned → ∀ f rest, s.span.store = f :: rest →
      (readSpan s).span = { s.span with store := rest, lastRead := f, delivered := f }) ∧
    (s.span.align = .aligned → s.span.store = [] →
      (readSpan s).span = { s.span with delivered := s.span.lastRead, slips := bump s.span.slips } ∧
      (readSpan s).pendingCause .slip)

/-! Ports, insertion and site timing -/

/-- PORT_LOS (R3, R1, R2, R4, R5): with no signal the port is in LOS, SEARCH and MF_SEARCH, without AIS, not available and
without far alarm; a flag that falls raises PORT_ALARM unless the port is silent. With a signal only LOS clears.
R4, R13, R18, R61, R69: what the fall of a port's available flag does at once. The settle timer of a trunk in
ACQUIRING returns to 0; a reference port puts site timing in holdover; runs in progress on the path's records end; and a
circuit that listens to the lost copper path, not being moved, is conditioned.
R105, R106: a circuit that waits for its roll toward the span gets a rescue roll due in the next frame, unless it has one; a
move toward copper ends with COPPER_LOST, undone at once in BLOCKING and SWAPPING, and fails in the hitless states; every
other move goes on. -/
def Obligations.PortLosEvaluated : Prop :=
  (∀ (p : PortId) (s : State), s.dev.powered = true →
    (∃ t, exec (.portLos p true) s = .next t ∧
      (t.port p).los = true ∧ (t.port p).align = .search ∧ (t.port p).mf = .search ∧ (t.port p).ais = false ∧
      (t.port p).available = false ∧ (t.port p).far = false ∧ (∀ q, q ≠ p → t.port q = s.port q) ∧
      ((s.port p).available = true → portSilent s p = false → t.pendingCause .portAlarm)) ∧
    exec (.portLos p false) s = .next (s.modPort p fun r => { r with los := false })) ∧
  ∀ (p : PortId) (s : State), s.dev.powered = true → (s.port p).available = true →
    ∃ t, exec (.portLos p true) s = .next t ∧
      ((s.trunk (portTrunk p)).insertion = .acquiring → (t.trunk (portTrunk p)).settle = 0) ∧
      (∀ k, p = .sw k → s.timing.refPort = k → t.timing.qual = 0 ∧ t.timing.holdover = true) ∧
      (∀ k, p = .sw k → s.timing.refPort ≠ k → t.timing = s.timing) ∧
      (∀ k c, p = .sw k → trunkOf c = k →
        (t.circ c).fwd = { code := (s.circ c).fwd.code, cand := none, count := 0 }) ∧
      ∀ k c, p = .line k → trunkOf c = k →
        (t.circ c).cuBack = { code := (s.circ c).cuBack.code, cand := none, count := 0 } ∧
        ((s.trunk k).function ≠ .spanOnly → (s.circ c).sel = .copper → (s.info c).mgmt = false →
          (∀ m v, s.move? m = some v → v.circuit ≠ c) → (t.circ c).conditioned = true) ∧
      ∀ k m v, p = .line k → (s.trunk k).function ≠ .spanOnly → MovesSound s → s.move? m = some v →
        trunkOf v.circuit = k →
        let st := (s.circ v.circuit).state
        (v.dir = .toSpan → st.awaitsRoll = true →
          ((∃ d, v.rollDue = some d ∧ d.kind = .rescue) → t.move? m = some v) ∧
          ((∀ d, v.rollDue = some d → d.kind ≠ .rescue) →
            t.move? m = some { v with rollDue := some ⟨s.now + 1, .rescue⟩, validity := .stopped }) ∧
          (t.circ v.circuit).state = st) ∧
        (v.dir = .toSpan → st.awaitsRoll = false → t.move? m = some v ∧ (t.circ v.circuit).state = st) ∧
        (v.dir = .toCopper → st = .blocking ∨ st = .swapping →
          t.move? m = none ∧ (t.circ v.circuit).restsAt .moved ∧ ((t.circ v.circuit).blocked = true ↔ st = .swapping) ∧
          (t.circ v.circuit).lastFault = some .copperLost ∧ t.pendingCause .moveFailed) ∧
        (v.dir = .toCopper → st = .bridging ∨ st.awaitsRoll = true ∨ st = .rolled → FailedInto s t m v .copperLost) ∧
        (v.dir = .toCopper → st = .abandoning → t.move? m = some v ∧ (t.circ v.circuit).state = st)

/-- PORT_FRAME_RECEIVED and SPAN_FRAME_RECEIVED out of alignment (R1, R26): the hunt over the bits held so far and the new
ones. A place is refuted when the word is wrong there, one period on or two periods on. With every place refuted the receive
is in SEARCH; at the first place not refuted it is in CONFIRM until the frame of the second check is whole, and then ALIGNED:
the store is recentred with that frame behind its FF frames, the counts start from 0, and the mark of the copper, or of the
span, is the frame in which it is delivered (R2, R4, R5, R6, R34, R112).
Choices of the model: that frame is the first received in ALIGNED (log 36), the chunks (log 6), the frame of a recentring
(log 5). -/
def Obligations.AlignmentEntered : Prop :=
  let placed (word l : List Bool) (j : Nat) : Prop := (l.drop j).take word.length = word
  let refuted (word : List Bool) (period : Nat) (l : List Bool) (j : Nat) : Prop :=
    ¬ placed word l j ∨ (j + period + word.length ≤ l.length ∧ ¬ placed word l (j + period)) ∨
      (j + 2 * period + word.length ≤ l.length ∧ ¬ placed word l (j + 2 * period))
  let firstOpen (word : List Bool) (period : Nat) (l : List Bool) (i : Nat) : Prop :=
    i + word.length ≤ l.length ∧ ¬ refuted word period l i ∧ ∀ j, j < i → refuted word period l j
  (∀ (p : PortId) (octets : List Byte) (s : State),
    s.dev.powered = true → octets.length = 32 → (s.port p).los = false → (s.port p).align ≠ .aligned →
    let word : List Bool := [false, false, true, true, false, true, true]
    let l := (s.port p).bits ++ octetsBits octets
    ∃ t, exec (.portFrameReceived p octets) s = .next t ∧ (t.port p).available = false ∧
      (t.port p).slips = (s.port p).slips ∧ (∀ q, q ≠ p → t.port q = s.port q) ∧
      ((∀ j, j + 7 ≤ l.length → refuted word 512 l j) →
        (t.port p).align = .search ∧ (t.port p).bits = l.drop (l.length - 6) ∧ (t.port p).store = (s.port p).store ∧
        t.align.copperMark = s.align.copperMark) ∧
      ∀ i, firstOpen word 512 l i →
        (l.length < i + 1279 →
          (t.port p).align = .confirm ∧ (t.port p).bits = l.drop i ∧ (t.port p).store = (s.port p).store ∧
          t.align.copperMark = s.align.copperMark) ∧
        (i + 1279 ≤ l.length → l.length < i + 1535 →
          let frame := bitsOctets 32 ((l.drop (i + 1023)).take 256)
          (t.port p).align = .aligned ∧ (t.port p).bits = l.drop (i + 1279) ∧ (t.port p).wrong = 0 ∧
          (t.port p).carriesWord = false ∧ (t.port p).farOnes = 0 ∧ (t.port p).farZeros = 0 ∧
          (t.port p).mf = (if upperCode (octetAt frame 16) = 0 then .confirm [] else .search) ∧
          (t.port p).store = [⟨ffFrame, none⟩, ⟨frameOf frame, none⟩] ∧
          (∀ k, p = .line k → t.align.copperMark.get k = s.now + 2 ∧
            ∀ j, j ≠ k → t.align.copperMark.get j = s.align.copperMark.get j) ∧
          (∀ k, p = .sw k → t.align.copperMark = s.align.copperMark))) ∧
  ∀ (octets : List Byte) (s : State),
    s.dev.powered = true → octets.length = 561 → s.span.los = false → s.span.align ≠ .aligned →
    let word := octetsBits [0x3C, 0xA5, 0x5A, 0xC3]
    let l := s.span.bits ++ octetsBits octets
    ∃ t, exec (.spanFrameReceived octets) s = .next t ∧ t.span.slips = s.span.slips ∧
      ((∀ j, j + 32 ≤ l.length → refuted word 4488 l j) →
        t.span.align = .search ∧ t.span.bits = l.drop (l.length - 31) ∧ t.span.store = s.span.store ∧
        t.align.spanMark = s.align.spanMark) ∧
      ∀ i, firstOpen word 4488 l i →
        (l.length < i + 13464 →
          t.span.align = .confirm ∧ t.span.bits = l.drop i ∧ t.span.store = s.span.store ∧
          t.align.spanMark = s.align.spanMark) ∧
        (i + 13464 ≤ l.length → l.length < i + 17952 →
          let frame := bitsOctets 561 ((l.drop (i + 8976)).take 4488)
          let o : SpanOctets := Table.ofFn fun j => octetAt frame (47 + j.val)
          t.span.align = .aligned ∧ t.span.bits = l.drop (i + 13464) ∧ t.span.wrong = 0 ∧
          t.span.store = [ffSpan, ffSpan, ffSpan, ffSpan, o] ∧ t.align.spanMark = s.now + 5 ∧
          (spanErrored frame = false → t.span.rxNumber = some (word16 (octetAt frame 4) (octetAt frame 5))) ∧
          (spanErrored frame = true → s.span.rxNumber = none → t.span.rxNumber = none))

/-- PORT_FRAME_RECEIVED on an aligned port with no part of a frame left over (R1, R6, R7): the third wrong word in
succession ends alignment; otherwise the port stays aligned and the frame is written, a full store deleting its oldest
frame, which is a slip, kept for the alignment unit where it is a copper's (R127). No other port changes.
R2: multiframe alignment after slot 16 of the frame. R3: the frame as a block judged for AIS. R5: the A bit of a frame
without the word, and the far-alarm flag. R70: a copper path that becomes available is no longer conditioned.
Choices of the model: the chunk of 32 octets (log 6), the slip on writing (log 5). -/
def Obligations.PortFrameReceived : Prop :=
  ∀ (p : PortId) (octets : List Byte) (s : State),
    s.dev.powered = true → octets.length = 32 → (s.port p).los = false → (s.port p).align = .aligned →
    (s.port p).bits = [] →
    ∃ t, exec (.portFrameReceived p octets) s = .next t ∧ (∀ q, q ≠ p → t.port q = s.port q) ∧
      let wrongWord := (s.port p).carriesWord = true ∧ octetAt octets 0 &&& 0x7F ≠ 0x1B
      (wrongWord ∧ 2 = (s.port p).wrong →
        (t.port p).align ≠ .aligned ∧ (t.port p).mf = .search ∧ (t.port p).available = false ∧ (t.port p).far = false) ∧
      (¬ wrongWord ∧ (s.port p).wrong < 3 ∨ wrongWord ∧ (s.port p).wrong < 2 →
        (t.port p).align = .aligned ∧ (t.port p).bits = [] ∧
        (t.port p).carriesWord = !(s.port p).carriesWord ∧
        ((s.port p).carriesWord = true → octetAt octets 0 &&& 0x7F = 0x1B → (t.port p).wrong = 0) ∧
        (wrongWord → (t.port p).wrong = (s.port p).wrong + 1) ∧
        (t.port p).available = (t.port p).judgeAvailable ∧
        ((s.port p).store.length < 2 →
          (t.port p).store.map StoredFrame.octets = (s.port p).store.map StoredFrame.octets ++ [frameOf octets] ∧
          (t.port p).slips = (s.port p).slips) ∧
        (2 ≤ (s.port p).store.length →
          (t.port p).store.map StoredFrame.octets =
            ((s.port p).store.drop 1).map StoredFrame.octets ++ [frameOf octets] ∧
          (t.port p).slips = bump (s.port p).slips ∧ (portSilent s p = false → t.pendingCause .slip) ∧
          (∀ k, p = .line k → t.align.copperDeleted.get k = true)) ∧
        (∀ k, p = .line k → (s.port p).store.length < 2 → t.align.copperDeleted = s.align.copperDeleted) ∧
        (∀ k, p = .sw k → t.align.copperDeleted = s.align.copperDeleted) ∧ t.align.copperMark = s.align.copperMark ∧
        ((s.port p).carriesWord = true →
          (t.port p).far = (s.port p).far ∧ (t.port p).farOnes = (s.port p).farOnes ∧
          (t.port p).farZeros = (s.port p).farZeros) ∧
        ((s.port p).carriesWord = false → (octetAt octets 0).getLsbD 5 = true →
          (t.port p).farOnes = (s.port p).farOnes + 1 ∧ (t.port p).farZeros = 0 ∧
          ((t.port p).far = true ↔ (s.port p).far = true ∨ 3 ≤ (s.port p).farOnes + 1)) ∧
        ((s.port p).carriesWord = false → (octetAt octets 0).getLsbD 5 = false →
          (t.port p).farZeros = (s.port p).farZeros + 1 ∧ (t.port p).farOnes = 0 ∧
          ((t.port p).far = true ↔ (s.port p).far = true ∧ (s.port p).farZeros + 1 < 3)) ∧
        (let zeros := (octetsBits octets).countP fun b => !b
        ((t.port p).ais = true ↔ zeros ≤ 2 ∧ ((s.port p).ais = true ∨ (s.port p).aisRun = true)) ∧
        ((t.port p).aisRun = true ↔ zeros ≤ 2)) ∧
        (let o := octetAt octets 16
        let pattern (b : Byte) : Prop := upperCode b = 0
        ((s.port p).mf = .search →
          ((s.port p).carriesWord = true → pattern o → (t.port p).mf = .confirm []) ∧
          ((s.port p).carriesWord = false ∨ ¬ pattern o → (t.port p).mf = .search)) ∧
        (∀ seen, (s.port p).mf = .confirm seen →
          (seen.length < 15 → (t.port p).mf = .confirm (seen ++ [o])) ∧
          (seen.length = 15 → pattern o → (t.port p).mf = .aligned 0 0 []) ∧
          (seen.length = 15 → ¬ pattern o →
            (∀ i, i % 2 = 1 → i < 15 → pattern (octetAt seen i) →
              (∀ j, j < i → j % 2 = 1 → ¬ pattern (octetAt seen j)) →
              (t.port p).mf = .confirm ((seen ++ [o]).drop (i + 1))) ∧
            ((∀ i, i % 2 = 1 → i < 15 → ¬ pattern (octetAt seen i)) → (t.port p).mf = .search))) ∧
        ∀ pos w codes, (s.port p).mf = .aligned pos w codes →
          (pos < 15 → (t.port p).mf = .aligned (pos + 1) w (codes ++ [o])) ∧
          (15 ≤ pos → pattern o → (t.port p).mf = .aligned 0 0 []) ∧
          (15 ≤ pos → ¬ pattern o → w = 0 → (t.port p).mf = .aligned 0 1 []) ∧
          (15 ≤ pos → ¬ pattern o → w ≠ 0 → (t.port p).mf = .search)) ∧
        ∀ k c, p = .line k → trunkOf c = k → (s.trunk k).function ≠ .spanOnly → (s.circ c).sel = .copper →
          (s.port p).available = false → (t.port p).available = true → (t.circ c).conditioned = false)

/-- R8, R59, R63, R64: the frame that completes an aligned multiframe hands its codes on: channel n's code in the upper
nibble of frame n's slot 16, channel n + 16's in the lower one. Each circuit's record of the port's path is judged, and its
call state anew; the management channel's code is discarded, and the line port of a SPAN_ONLY trunk hands none (R11).
R97: a circuit that waits for its roll and becomes IDLE has an idle roll due at the next multiframe boundary unless a roll
is due; one that becomes BUSY loses an idle roll due, and from ALIGNED goes back to what R91 makes it wait for.
Choices of the model: the chunk of 32 octets (log 6), a port that is available before and after (log 35). -/
def Obligations.MultiframeCodesObserved : Prop :=
  ∀ (p : PortId) (octets : List Byte) (s : State) (w : Nat) (codes : List Byte),
    s.dev.powered = true → octets.length = 32 → (s.port p).los = false → (s.port p).align = .aligned →
    (s.port p).bits = [] → (s.port p).carriesWord = false → (s.port p).wrong < 3 →
    (s.port p).mf = .aligned 14 w codes → codes.length = 14 → (s.port p).ais = false →
    (s.port p).available = true → (2 < (octetsBits octets).countP fun b => !b) →
    ∃ t, exec (.portFrameReceived p octets) s = .next t ∧
      (∀ k, p = .line k → (s.trunk k).function = .spanOnly → t.circuits = s.circuits ∧ t.moves = s.moves) ∧
      (MovesSound s → ∀ c, trunkOf c ≠ portTrunk p ∨ (s.info c).mgmt = true → t.circ c = s.circ c) ∧
      ∀ (c : CircuitId) (n : Nat), trunkOf c = portTrunk p → (s.info c).mgmt = false → 1 ≤ n → n ≤ 15 →
        (∀ k, p = .line k → (s.trunk k).function ≠ .spanOnly) →
        let o := octetAt (codes ++ [octetAt octets 16]) (n - 1)
        let code := if channelOf c = n then upperCode o else lowerCode o
        (channelOf c = n ∨ channelOf c = n + 16 →
          (∀ k, p = .sw k → (t.circ c).fwd = (s.circ c).fwd.observe s.params.persistenceNow false code) ∧
          (∀ k, p = .line k → (t.circ c).cuBack = (s.circ c).cuBack.observe s.params.persistenceNow false code) ∧
          (t.circ c).busy = callBusy (s.trunk (trunkOf c)).codes (t.circ c) ∧
          ∀ m v, MovesSound s → s.move? m = some v → v.circuit = c →
            ((t.circ c).busy = (s.circ c).busy ∨ (s.circ c).state.awaitsRoll = false →
              t.move? m = some v ∧ (t.circ c).state = (s.circ c).state) ∧
            ((s.circ c).state.awaitsRoll = true → (s.circ c).busy = true → (t.circ c).busy = false →
              (t.circ c).state = (s.circ c).state ∧
              (v.rollDue = none →
                t.move? m = some { v with rollDue := some ⟨nextBoundary s.now, .idleRoll⟩, validity := .stopped }) ∧
              (v.rollDue ≠ none → t.move? m = some v)) ∧
            ((s.circ c).state.awaitsRoll = true → (s.circ c).busy = false → (t.circ c).busy = true →
              ((∀ d, v.rollDue = some d → d.kind ≠ .idleRoll) →
                t.move? m = some v ∧ (t.circ c).state = (s.circ c).state) ∧
              ∀ d, v.rollDue = some d → d.kind = .idleRoll →
                ((s.circ c).state ≠ .aligned →
                  t.move? m = some { v with rollDue := none } ∧ (t.circ c).state = (s.circ c).state) ∧
                ((s.circ c).state = .aligned → (s.info c).rollOnCommand = true →
                  t.move? m = some { v with rollDue := none, validity := .counting 0 } ∧
                  (t.circ c).state = .aligned) ∧
                ∀ r, (s.circ c).state = .aligned → (s.info c).rollOnCommand = false → v.result = some r →
                  DecidedRoll s t m { v with rollDue := none } r))

/-- R60: one observation against a record with persistence count P, which is at least 2 (R75). R63: the call state is
IDLE exactly when the forward code is the trunk's idle-out code and the selected path's backward code its idle-in code.
R97, 00: the next multiframe boundary after a frame is the first later frame whose number is a multiple of 16. -/
def Obligations.DebounceAndCallState : Prop :=
  (∀ (P : Nat) (code : Code) (d : Debounce), 2 ≤ P →
    (code = d.code → d.observe P false code = { d with cand := none, count := 0 }) ∧
    (code ≠ d.code → d.cand = some code → d.count + 1 < P →
      d.observe P false code = { d with count := d.count + 1 }) ∧
    (code ≠ d.code → d.cand = some code → P ≤ d.count + 1 →
      d.observe P false code = { code := code, cand := none, count := 0 }) ∧
    (code ≠ d.code → d.cand ≠ some code → d.observe P false code = { d with cand := some code, count := 1 }) ∧
    (code ≠ d.code → d.observe P true code = { d with cand := some code, count := 1 })) ∧
  (∀ (t : TrunkCodes) (r : Circuit),
    callBusy t r = false ↔
      r.fwd.code = t.idleOut ∧ (r.sel = .copper → r.cuBack.code = t.idleIn) ∧
      (r.sel = .span → r.spBack.code = t.idleIn)) ∧
  ∀ f : Frame,
    (nextBoundary f).toNat % 16 = 0 ∧ 1 ≤ (nextBoundary f - f).toNat ∧ (nextBoundary f - f).toNat ≤ 16

/-- SITE_TIMING_LOCK (R13), SETTLE_COMPLETE (R18, R168) and DEVICE_RUNNING (R22) at their limits.
DEGRADE_INTERVAL_END (R32, R33, R40, R71): an interval that waits to be judged is clean with fewer than D/2 errored frames
and alignment throughout; the third clean second in succession clears a set degrade flag, and where the span becomes usable
with it the restore timers of the circuits conditioned on the span start.
RESTORE_TIMER_EXPIRY (R71) and FREEZE_WINDOW_END (R67): each changes the one circuit it names and nothing else.
Choice of the model: a limit reached is taken by its own row (logs 2 and 4). -/
def Obligations.LimitsReached : Prop :=
  (∀ s : State, s.dev.powered = true → s.timing.holdover = true → 8000 ≤ s.timing.qual →
    exec .siteTimingLock s = .next { s with timing := { s.timing with holdover := false } }) ∧
  (∀ s : State, s.dev.powered = true → s.dev.devState = .starting → 8000 ≤ s.timing.count.toNat →
    exec .deviceRunning s = .next { s with dev := { s.dev with devState := .running } }) ∧
  (∀ (k : TrunkId) (s : State), s.dev.powered = true → (s.trunk k).insertion = .acquiring → 8000 ≤ (s.trunk k).settle →
    ∃ t, exec (.settleComplete k) s = .next t ∧
      (t.trunk k).insertion = .inserted ∧ (t.trunk k).bypass = false ∧ t.pendingCause .inserted ∧
      (∀ j, j ≠ k → t.trunk j = s.trunk j) ∧
      (strapMgmtTrunk s.dev.straps = some k → t.slotEntryOpen = true ∧ t.mgmt.slotRx.locked = false) ∧
      t.circuits = s.circuits ∧ t.moves = s.moves ∧ t.timing = s.timing) ∧
  (∀ s : State, s.dev.powered = true → s.span.intervalEnd = true →
    ∃ t, exec .degradeIntervalEnd s = .next t ∧
      t.span.intervalEnd = false ∧ t.span.errCount = 0 ∧ t.span.usable = t.span.judgeUsable ∧
      (s.span.usable = false → t.span.usable = true → t.pendingCause .spanUp ∧ t.moves = s.moves ∧
        ∀ c, t.circ c = if (s.circ c).sel = .span ∧ (s.circ c).conditioned = true then
          { s.circ c with restore := .counting 0 } else s.circ c) ∧
      (s.span.errCount < s.params.degrade / 2 ∧ s.span.alignedThroughout = true →
        (s.span.degrade = true → 2 ≤ s.span.streak → t.span.degrade = false ∧ t.span.streak = 0) ∧
        (¬ (s.span.degrade = true ∧ 2 ≤ s.span.streak) →
          t.span.degrade = s.span.degrade ∧ t.span.streak = s.span.streak + 1)) ∧
      (¬ (s.span.errCount < s.params.degrade / 2 ∧ s.span.alignedThroughout = true) →
        t.span.degrade = s.span.degrade ∧ t.span.streak = 0)) ∧
  ∀ (c : CircuitId) (s : State), s.dev.powered = true →
    ((∃ n, (s.circ c).restore = .due n) →
      exec (.restoreTimerExpiry c) s =
        .next (s.modCirc c fun r => { r with conditioned := false, restore := .stopped })) ∧
    ∀ code, (s.circ c).freeze = some { code := code, endFrame := s.now } →
      exec (.freezeWindowEnd c) s = .next (s.modCirc c fun r => { r with freeze := none })

/-! The span and what its loss does -/

/-- SPAN_LOS (R27, R28, R37 to R41, R165, R176): with no signal the receive is in LOS and SEARCH, its number invalid, the
peer absent and lost, the END conflict flag as it was. If the flag falls, SPAN_DOWN is raised, no circuit is in flight any
longer, both notice queues are empty and no proxy is outstanding. With a signal only LOS clears.
Choice of the model: the order of the effects of one fall (log 27). -/
def Obligations.SpanLosEvaluated : Prop :=
  ∀ s : State, s.dev.powered = true →
    (∃ t, exec (.spanLos true) s = .next t ∧
      t.span.los = true ∧ t.span.align = .search ∧ t.span.rxNumber = none ∧ t.span.peerState = none ∧
      t.span.peerEnd = none ∧ t.span.peerHoldOff = false ∧ t.span.peerFarFault = false ∧ t.span.present = false ∧
      t.span.runningRun = 0 ∧ t.span.otherRun = 0 ∧ t.span.sameRun = 0 ∧ t.span.differRun = 0 ∧
      t.span.conflict = s.span.conflict ∧ t.span.usable = false ∧
      (s.span.present = true → t.pendingCause .peerLost) ∧
      (s.span.usable = true →
        t.pendingCause .spanDown ∧ (∀ m, t.move? m = none) ∧ ((∃ m, s.move? m ≠ none) → t.pendingCause .fallback) ∧
        t.link.outQ = [] ∧ t.link.inQ = [] ∧ (1 ≤ s.params.marks.1 → t.link.holdOff = false) ∧ t.mgmt.proxy = none ∧
        ∀ c, (t.circ c).sel = .span → (s.circ c).moveSlot = none → (∀ m v, s.move? m = some v → v.circuit ≠ c) →
          (t.circ c).conditioned = true)) ∧
    exec (.spanLos false) s = .next { s with span := { s.span with los := false } }

/-- R102, R103: the fallback of a circuit in flight at a fall of the span usable flag, by its state and direction.
Choice of the model: the order of the effects of one fall (log 27). -/
def Obligations.FallbackByStateAndDirection : Prop :=
  ∀ (s : State) (c : CircuitId) (m : MoveId) (v : Move),
    s.dev.powered = true → s.span.usable = true → s.move? m = some v → v.circuit = c →
    (∀ m' v', s.move? m' = some v' → v'.circuit = c → m' = m) → (s.circ c).state.atRest = false →
    ∃ t, exec (.spanLos true) s = .next t ∧
      let old := s.circ c
      let new := t.circ c
      let landed : Bool := old.state = .bridged || old.state = .aligned || old.state = .rollPending || old.state = .rolled
      new.moveSlot = none ∧ new.dir = none ∧
      (v.dir = .toSpan ∨ landed = true →
        new.state = .home ∧ new.sel = .copper ∧ new.cuTx = true ∧ new.spTx = false ∧ new.spDepth = 0) ∧
      (v.dir = .toCopper → landed = false →
        new.state = .moved ∧ new.sel = .span ∧ new.cuTx = false ∧ new.spTx = true ∧ new.conditioned = true ∧
          new.cuDepth = 0) ∧
      new.blocked = (if old.state = .blocking then false else if old.state = .swapping then true else old.blocked) ∧
      new.lastFault =
        (match old.state, v.dir with
        | .swapping, _ => some .swapUnresolved
        | .rolled, .toSpan => some .spanFallback
        | .bridged, .toCopper | .aligned, .toCopper | .rollPending, .toCopper => some .spanFallback
        | .abandoning, _ => old.lastFault
        | _, _ => some .spanLost) ∧
      (v.dir = .toCopper → old.state = .bridged ∨ old.state = .aligned ∨ old.state = .rollPending →
        new.cuDepth = v.result.elim 0 AlignResult.depth) ∧
      (v.dir = .toSpan → old.state = .rolled → old.sel = .span →
        new.freeze = some { code := old.heard, endFrame := s.now + BitVec.ofNat 32 (16 * s.params.freezeNow) })

/-- SPAN_FRAME_RECEIVED on an aligned receive with no part of a frame left over (R26, R28 to R30, R32, R34, R35, R40): the
fourth wrong word in succession ends alignment. Otherwise the frame is received: a sound one sets number and peer status, an
errored one advances the number, is counted and may set the degrade flag; either way the channel octets are stored, and a
full store deletes its oldest frame, which is a slip kept for the alignment unit (R127). A frame is errored when its CRC
differs (R29); state 11 is read as HOLD and END 11 as NONE (R183); a counter stops at 65 535.
Of an errored frame the notices are discarded (R30), and the 32 codes are handed with the advanced number, or not at all
while the number is invalid (R28, R31).
R170: the management octets of the frames numbered 8q to 8q + 7 are the pieces of one cell, complete with that of number
8q + 7 and bad where a piece is spoiled or missing; a cell left for another one is counted as discarded, and one that a loss
of ALIGNED interrupts is not; the first cell begins at a number that is a multiple of 8.
Choices of the model: the chunk of 561 octets (log 6), the slip on writing (log 5), when a cell that a jump spoils is counted
(logs 33, 39). -/
def Obligations.SpanFrameReceived : Prop :=
  (∀ l : List Byte, spanErrored l = true ↔ word16 (octetAt l 559) (octetAt l 560) ≠ crc16 ((l.drop 4).take 555)) ∧
  (∀ o : Byte,
    peerStateOf o = (if o.extractLsb' 6 2 = 0 then .starting else if o.extractLsb' 6 2 = 1 then .running else .hold) ∧
    peerEndOf o = if o.extractLsb' 4 2 = 1 then some .a else if o.extractLsb' 4 2 = 2 then some .b else none) ∧
  (∀ w : Word16, bump w = if w.toNat = 65535 then w else w + 1) ∧
  (∀ (s : State) (q : Nat) (piece : Nat → List Byte) (spoiled received : Nat → Bool),
    q < 8192 → s.mgmt.spanAsm = none → s.mgmt.spanSync = true ∨ received 0 = true → received 7 = true →
    forEach ((List.range 8).filter received)
        (fun i t => placePiece (BitVec.ofNat 16 (8 * q + i)) (spoiled i) (piece i) t) s =
      { s with mgmt := { s.mgmt with
        spanSync := true
        spanReady := s.mgmt.spanReady ++ [{
          octets := ((List.range 8).filter received).flatMap piece
          bad := (List.range 8).any fun i => !received i || spoiled i }] } }) ∧
  (∀ s : State, s.dev.powered = true → ∃ t, exec (.spanLos true) s = .next t ∧ t.mgmt.spanAsm = none ∧
    t.mgmt.spanSync = false ∧ t.mgmt.spanReady = s.mgmt.spanReady ∧ t.mgmt.spanDiscards = s.mgmt.spanDiscards) ∧
  ∀ (l : List Byte) (s : State),
    s.dev.powered = true → l.length = 561 → s.span.los = false → s.span.align = .aligned → s.span.bits = [] →
    ∃ t, exec (.spanFrameReceived l) s = .next t ∧
      (l.take 4 ≠ [0x3C, 0xA5, 0x5A, 0xC3] → s.span.wrong = 3 →
        t.span.align ≠ .aligned ∧ t.span.rxNumber = none ∧ t.span.present = false ∧ t.span.usable = false ∧
        t.mgmt.spanAsm = none ∧ t.mgmt.spanSync = false ∧ t.mgmt.spanReady = s.mgmt.spanReady ∧
        t.mgmt.spanDiscards = s.mgmt.spanDiscards) ∧
      (l.take 4 = [0x3C, 0xA5, 0x5A, 0xC3] ∨ s.span.wrong < 3 →
        t.span.align = .aligned ∧ t.span.bits = [] ∧
        t.span.wrong = (if l.take 4 = [0x3C, 0xA5, 0x5A, 0xC3] then 0 else s.span.wrong + 1) ∧
        t.span.usable = t.span.judgeUsable ∧
        (spanErrored l = false →
          t.span.rxNumber = some (word16 (octetAt l 4) (octetAt l 5)) ∧
          t.span.peerState = some (peerStateOf (octetAt l 6)) ∧ t.span.peerEnd = some (peerEndOf (octetAt l 6)) ∧
          t.span.peerHoldOff = (octetAt l 6).getLsbD 3 ∧ t.span.peerFarFault = (octetAt l 6).getLsbD 2 ∧
          t.span.errored = s.span.errored ∧ t.span.errCount = s.span.errCount) ∧
        (spanErrored l = true →
          t.span.rxNumber = s.span.rxNumber.map (fun n => n + 1) ∧ t.span.peerState = s.span.peerState ∧
          t.span.peerEnd = s.span.peerEnd ∧ t.span.peerHoldOff = s.span.peerHoldOff ∧
          t.span.present = s.span.present ∧ t.span.conflict = s.span.conflict ∧
          t.span.errored = bump s.span.errored ∧ t.span.errCount = s.span.errCount + 1 ∧
          (t.span.degrade = true ↔ s.span.degrade = true ∨ s.params.degrade ≤ s.span.errCount + 1) ∧
          t.link.inQ = (if s.span.usable = true ∧ t.span.usable = false then [] else s.link.inQ) ∧
          t.link.inboundDrops = s.link.inboundDrops ∧
          (s.span.rxNumber = none →
            ∀ c, (t.circ c).spLast = (s.circ c).spLast ∧ (t.circ c).spBack = (s.circ c).spBack) ∧
          ∀ (n : Word16) (c : CircuitId) (sl : SlotId), s.span.rxNumber = some n →
            s.map.directory.get sl = some c → (∀ x, s.map.directory.get x = some c → x = sl) →
            (sl.val / 32 = (n + 1).toNat % 16 →
              (t.circ c).spLast = some (n + 1) ∧
              (t.circ c).spBack = (s.circ c).spBack.observe s.params.persistenceNow ((s.circ c).spLast != some (n + 1 - 16))
                (if sl.val % 2 = 0 then upperCode (octetAt l (31 + sl.val % 32 / 2))
                else lowerCode (octetAt l (31 + sl.val % 32 / 2)))) ∧
            (sl.val / 32 ≠ (n + 1).toNat % 16 →
              (t.circ c).spLast = (s.circ c).spLast ∧ (t.circ c).spBack = (s.circ c).spBack)) ∧
        (let spoiled := spanErrored l
        let piece := (l.drop 7).take 8
        (t.span.rxNumber = none → t.mgmt.spanSync = s.mgmt.spanSync ∧ t.mgmt.spanAsm = s.mgmt.spanAsm ∧
          t.mgmt.spanReady = s.mgmt.spanReady ∧ t.mgmt.spanDiscards = s.mgmt.spanDiscards) ∧
        ∀ num, t.span.rxNumber = some num →
          let q := num.toNat / 8
          let r := num.toNat % 8
          let unused := s.mgmt.spanSync = false ∧ r ≠ 0
          let left := ∃ a, s.mgmt.spanAsm = some a ∧ a.q ≠ q
          (unused → t.mgmt.spanSync = false ∧ t.mgmt.spanAsm = s.mgmt.spanAsm ∧
            t.mgmt.spanReady = s.mgmt.spanReady ∧ t.mgmt.spanDiscards = s.mgmt.spanDiscards) ∧
          (¬ unused → t.mgmt.spanSync = true ∧
            (left → s.mgmt.restart = .idle → t.mgmt.spanDiscards = bump s.mgmt.spanDiscards) ∧
            (¬ left ∨ s.mgmt.restart ≠ .idle → t.mgmt.spanDiscards = s.mgmt.spanDiscards) ∧
            (s.mgmt.spanAsm = none ∨ left →
              (r < 7 → t.mgmt.spanReady = s.mgmt.spanReady ∧
                t.mgmt.spanAsm = some { q := q, next := r + 1, octets := piece, bad := spoiled || r != 0 }) ∧
              (r = 7 → t.mgmt.spanAsm = none ∧
                t.mgmt.spanReady = s.mgmt.spanReady ++ [{ octets := piece, bad := true }])) ∧
            ∀ a, s.mgmt.spanAsm = some a → a.q = q →
              let bad := a.bad || spoiled || r != a.next
              (r < 7 → t.mgmt.spanReady = s.mgmt.spanReady ∧
                t.mgmt.spanAsm = some { q := q, next := r + 1, octets := a.octets ++ piece, bad := bad }) ∧
              (r = 7 → t.mgmt.spanAsm = none ∧
                t.mgmt.spanReady = s.mgmt.spanReady ++ [{ octets := a.octets ++ piece, bad := bad }]))) ∧
        (let o : SpanOctets := Table.ofFn fun i => octetAt l (47 + i.val)
        (s.span.store.length < 8 → t.span.store = s.span.store ++ [o] ∧ t.span.slips = s.span.slips ∧
          t.align.spanDeleted = s.align.spanDeleted) ∧
        (8 ≤ s.span.store.length →
          t.span.store = s.span.store.drop 1 ++ [o] ∧ t.span.slips = bump s.span.slips ∧ t.pendingCause .slip ∧
          t.align.spanDeleted = true)) ∧
        t.align.spanMark = s.align.spanMark)

/-- R38, R39: what one sound frame does to the runs, the peer present flag and the END conflict flag. R40, R71: where the
span becomes usable with it, the restore timers of the circuits conditioned on the span start.
Choice of the model: the chunk of 561 octets (log 6). -/
def Obligations.SoundFrameJudgesPeer : Prop :=
  ∀ (l : List Byte) (s : State),
    s.dev.powered = true → l.length = 561 → s.span.los = false → s.span.align = .aligned → s.span.bits = [] →
    l.take 4 = [0x3C, 0xA5, 0x5A, 0xC3] → spanErrored l = false →
    ∃ t, exec (.spanFrameReceived l) s = .next t ∧
      (peerStateOf (octetAt l 6) = .running →
        t.span.runningRun = min 16 (s.span.runningRun + 1) ∧ t.span.otherRun = 0 ∧
        (t.span.present = true ↔ s.span.present = true ∨ 16 ≤ s.span.runningRun + 1)) ∧
      (peerStateOf (octetAt l 6) ≠ .running →
        t.span.otherRun = min 16 (s.span.otherRun + 1) ∧ t.span.runningRun = 0 ∧
        (t.span.present = true ↔ s.span.present = true ∧ s.span.otherRun + 1 < 16)) ∧
      (s.span.present = true → t.span.present = false → t.pendingCause .peerLost) ∧
      (strapEnd s.dev.straps ≠ none ∧ strapEnd s.dev.straps = peerEndOf (octetAt l 6) →
        t.span.sameRun = min 16 (s.span.sameRun + 1) ∧ t.span.differRun = 0 ∧
        (t.span.conflict = true ↔ s.span.conflict = true ∨ 16 ≤ s.span.sameRun + 1)) ∧
      (strapEnd s.dev.straps = none ∨ strapEnd s.dev.straps ≠ peerEndOf (octetAt l 6) →
        t.span.differRun = min 16 (s.span.differRun + 1) ∧ t.span.sameRun = 0 ∧
        (t.span.conflict = true ↔ s.span.conflict = true ∧ s.span.differRun + 1 < 16)) ∧
      (s.span.conflict = false → t.span.conflict = true → t.pendingCause .endConflict) ∧
      (s.span.usable = false → t.span.usable = true → t.pendingCause .spanUp ∧
        ∀ c, (t.circ c).conditioned = (s.circ c).conditioned ∧ (t.circ c).restore =
          if (s.circ c).sel = .span ∧ (s.circ c).conditioned = true then .counting 0 else (s.circ c).restore) ∧
      (s.span.usable = true → t.span.usable = false → t.pendingCause .spanDown)

/-- R30, R155: the notice positions of a sound frame join the inbound queue while the span is usable; at a full queue they
are dropped and counted, and NOTICE_LOSS is raised. R183: a position is read by the coding of 10.2, as `ReadsNotice` says,
and one that names no kind, reason, detail or slot counts as EMPTY. R31, R59, R61: its signalling section, with the frame's
number m, hands each circuit that holds one of the slots 32m to 32m + 31 (m modulo 16) its span backward code; a number other than the last
plus 16 is a gap.
Choices of the model: the chunk (log 6), notices of the frame in which usable changes (log 26), and that the force bit of a
received REFUSE is not examined (log 43). -/
def Obligations.SoundFrameHandsNoticesAndCodes : Prop :=
  ∀ (l : List Byte) (s : State),
    s.dev.powered = true → l.length = 561 → s.span.los = false → s.span.align = .aligned → s.span.bits = [] →
    l.take 4 = [0x3C, 0xA5, 0x5A, 0xC3] → spanErrored l = false →
    ∃ t first second, exec (.spanFrameReceived l) s = .next t ∧
      ReadsNotice ((l.drop 15).take 8) first ∧ ReadsNotice ((l.drop 23).take 8) second ∧
      let staysUsable := s.span.usable = true ∧ s.span.judgeUsable = true ∧ peerStateOf (octetAt l 6) = .running ∧
        peerEndOf (octetAt l 6) ≠ strapEnd s.dev.straps
      (staysUsable → s.link.inQ.length + 2 ≤ 64 →
        t.link.inQ = s.link.inQ ++ first.toList ++ second.toList ∧ t.link.inboundDrops = s.link.inboundDrops) ∧
      (staysUsable → 64 ≤ s.link.inQ.length → first ≠ none → second = none →
        t.link.inQ = s.link.inQ ∧ t.link.inboundDrops = bump s.link.inboundDrops ∧ t.pendingCause .noticeLoss) ∧
      (s.span.usable = false → s.span.degrade = true → t.link.inQ = s.link.inQ) ∧
      let num := word16 (octetAt l 4) (octetAt l 5)
      ∀ (c : CircuitId) (sl : SlotId),
        s.map.directory.get sl = some c → (∀ x, s.map.directory.get x = some c → x = sl) →
        (sl.val / 32 = num.toNat % 16 →
          (t.circ c).spLast = some num ∧
          (t.circ c).spBack = (s.circ c).spBack.observe s.params.persistenceNow ((s.circ c).spLast != some (num - 16))
            (if sl.val % 2 = 0 then upperCode (octetAt l (31 + sl.val % 32 / 2))
            else lowerCode (octetAt l (31 + sl.val % 32 / 2)))) ∧
        (sl.val / 32 ≠ num.toNat % 16 → (t.circ c).spLast = (s.circ c).spLast ∧ (t.circ c).spBack = (s.circ c).spBack)

/-! Notices -/

/-- R156: each notice row takes the head of the inbound queue when it is of the row's kind, and does what NOTICE_TAKEN does
then; it does nothing on another head, on an empty queue, or in a frame in which a notice has been taken (log 11). -/
def Obligations.NoticeRowsTakeTheHead : Prop :=
  ∀ s : State, s.dev.powered = true →
    (∀ n, s.link.inQ.head? = some n → s.link.taken = false →
      (∃ t, exec .noticeTaken s = .next t ∧ exec (rowOf n) s = .next t ∧ t.link.inQ = s.link.inQ.tail ∧
        t.link.taken = true) ∧
      ∀ c ∈ noticeRows, c ≠ rowOf n → exec c s = .next s) ∧
    (s.link.inQ = [] ∨ s.link.taken = true → ∀ c ∈ .noticeTaken :: noticeRows, exec c s = .next s)

/-- BLOCK_RECEIVED at the starting rest state (R83): an idle ready circuit becomes RESPONDER in BLOCKING and answers
BLOCKED; a busy one answers REFUSE BUSY_CALL; one that is not ready leaves the BLOCK unanswered. A circuit is ready,
besides a free slot, when its trunk is inserted, it is not blocked and, toward copper, the copper path is available. At the
target rest state it is refused with DIRECTION (R159).
A repeat of the BLOCK that a responder in BLOCKING has taken is answered BLOCKED again, and changes nothing (R85, R160). -/
def Obligations.BlockReceived : Prop :=
  (∀ (s : State) (c : CircuitId) (d : Dir),
    readyFor s c d = true ↔
      (s.trunk (trunkOf c)).insertion = .inserted ∧ (s.circ c).blocked = false ∧
        (d = .toCopper → (s.line.get (trunkOf c)).available = true ∧ (s.trunk (trunkOf c)).function ≠ .spanOnly)) ∧
  (∀ (s : State) (n : Notice) (m : MoveId) (v : Move),
    NoticeAtHead s n → n.kind = .req .block → FindsInFlight s n m v → (s.circ v.circuit).state = .blocking →
    v.role = .responder → v.peerTag = some n.tag →
    ∃ t, exec .blockReceived s = .next t ∧ TakenOnly s t ∧
      t.link.outQ = s.link.outQ ++ [⟨answerTo n .block, none⟩]) ∧
  (∀ (s : State) (n : Notice) (c : CircuitId),
    NoticeAtHead s n → n.kind = .req .block → FindsAtRest s n c → (s.circ c).state ≠ n.dir.startRest →
    ∃ t, exec .blockReceived s = .next t ∧ TakenOnly s t ∧
      t.link.outQ = s.link.outQ ++ [⟨refusalOf n .direction .block, none⟩]) ∧
  ∀ (s : State) (n : Notice) (c : CircuitId),
    NoticeAtHead s n → n.kind = .req .block → FindsAtRest s n c → (s.circ c).state = n.dir.startRest →
    (∀ m, s.freeMove? = some m → readyFor s c n.dir = true → (s.circ c).busy = false →
      ∃ t, exec .blockReceived s = .next t ∧ TakenFor s t c m ∧
        t.circ c = { s.circ c with
          state := .blocking, blocked := true, moveSlot := some m, dir := some n.dir, order := none } ∧
        (∃ v, t.move? m = some v ∧ v.circuit = c ∧ v.role = .responder ∧ v.kind = .cold ∧ v.dir = n.dir ∧
          v.tag = s.moves.tagCounter ∧ v.peerTag = some n.tag ∧ v.request = none ∧ v.order = none ∧
          v.progress = .counting 0) ∧
        t.moves.tagCounter = s.moves.tagCounter + 1 ∧
        t.link.outQ = s.link.outQ ++ [⟨answerTo n .block, none⟩]) ∧
    (∀ m, s.freeMove? = some m → readyFor s c n.dir = true → (s.circ c).busy = true →
      ∃ t, exec .blockReceived s = .next t ∧ TakenOnly s t ∧
        t.link.outQ = s.link.outQ ++ [⟨refusalOf n .busyCall .block, none⟩]) ∧
    (s.freeMove? = none ∨ readyFor s c n.dir = false →
      ∃ t, exec .blockReceived s = .next t ∧ TakenOnly s t ∧ t.link.outQ = s.link.outQ)

/-- SWAP_RECEIVED and FORCED_SWAP_RECEIVED (R85, R88). With the peer tag at a responder in BLOCKING the idle end swaps,
answers SWAPPED and completes with result COLD; the busy end answers REFUSE BUSY_CALL and fails with SEIZED.
At the target rest state of its direction it is answered SWAPPED, in either form; at the starting rest state a plain SWAP is
refused with SEQUENCE, and a SWAP with the force flag swaps a ready circuit at once, which answers SWAPPED, takes no slot and
writes the result FORCE; a circuit that is not ready leaves it unanswered.
Choice of the model: the replay 0 in the result of a swap (log 44). -/
def Obligations.SwapReceived : Prop :=
  (∀ (s : State) (n : Notice) (m : MoveId) (v : Move),
    NoticeAtHead s n → n.kind = .req .swap → n.force = false → FindsInFlight s n m v →
    (s.circ v.circuit).state = .blocking → v.role = .responder → v.peerTag = some n.tag →
    ((s.circ v.circuit).busy = false →
      ∃ t, exec .swapReceived s = .next t ∧ TakenFor s t v.circuit m ∧ t.move? m = none ∧
        (t.circ v.circuit).restsAt n.dir.targetRest ∧ (t.circ v.circuit).blocked = false ∧
        (t.circ v.circuit).depth n.dir.newPath = 0 ∧
        (t.circ v.circuit).lastResult = some { kind := .cold, lag := none, replay := 0 } ∧
        t.link.outQ = withoutOwned m s.link.outQ ++ [⟨answerTo n .swap, none⟩]) ∧
    ((s.circ v.circuit).busy = true →
      ∃ t, exec .swapReceived s = .next t ∧ TakenFor s t v.circuit m ∧ t.move? m = none ∧
        (t.circ v.circuit).restsAt n.dir.startRest ∧ (t.circ v.circuit).blocked = false ∧
        (t.circ v.circuit).lastFault = some .seized ∧ t.pendingCause .moveFailed ∧
        t.link.outQ = withoutOwned m s.link.outQ ++ [⟨refusalOf n .busyCall .swap, none⟩])) ∧
  ∀ (s : State) (n : Notice) (c : CircuitId),
    NoticeAtHead s n → n.kind = .req .swap → FindsAtRest s n c →
    let ready := (s.trunk (trunkOf c)).insertion = .inserted ∧ (s.circ c).blocked = false ∧
      (n.dir = .toCopper → s.copperAvail (trunkOf c) = true)
    ((s.circ c).state = n.dir.targetRest → n.force = false →
      ∃ t, exec .swapReceived s = .next t ∧ TakenOnly s t ∧
        t.link.outQ = s.link.outQ ++ [⟨answerTo n .swap, none⟩]) ∧
    ((s.circ c).state = n.dir.targetRest → n.force = true →
      ∃ t, exec .forcedSwapReceived s = .next t ∧ TakenOnly s t ∧
        t.link.outQ = s.link.outQ ++ [⟨answerTo n .swap, none⟩]) ∧
    ((s.circ c).state = n.dir.startRest → n.force = false →
      ∃ t, exec .swapReceived s = .next t ∧ TakenOnly s t ∧
        t.link.outQ = s.link.outQ ++ [⟨refusalOf n .sequence .swap, none⟩]) ∧
    ((s.circ c).state = n.dir.startRest → n.force = true → ready → (s.circ c).dir = none →
      ∃ t, exec .forcedSwapReceived s = .next t ∧ (∀ m, TakenFor s t c m) ∧ t.moves = s.moves ∧
        (t.circ c).restsAt n.dir.targetRest ∧ (t.circ c).depth n.dir.newPath = 0 ∧
        (t.circ c).lastResult = some { kind := .force, lag := none, replay := 0 } ∧
        t.link.outQ = s.link.outQ ++ [⟨answerTo n .swap, none⟩]) ∧
    ((s.circ c).state = n.dir.startRest → n.force = true → ¬ ready →
      ∃ t, exec .forcedSwapReceived s = .next t ∧ TakenOnly s t ∧ t.link.outQ = s.link.outQ)

/-- BRIDGE_RECEIVED (R90): a ready circuit at the starting rest state becomes RESPONDER in BRIDGED with the new-path
transmit on, answers BRIDGED and joins the tail of the alignment queue; one that is not ready leaves it unanswered; a
repeat in BRIDGED or a later hitless state is answered again, and with no peer tag recorded its tag becomes it; with another
tag it is refused with SEQUENCE (R78, R160). At the target rest state it is refused with DIRECTION (R159). -/
def Obligations.BridgeReceived : Prop :=
  ∀ (s : State) (n : Notice), NoticeAtHead s n → n.kind = .req .bridge →
    (∀ c m, FindsAtRest s n c → (s.circ c).state = n.dir.startRest → s.freeMove? = some m →
      readyFor s c n.dir = true →
      ∃ t, exec .bridgeReceived s = .next t ∧ TakenFor s t c m ∧
        t.circ c = ({ s.circ c with
          state := .bridged, moveSlot := some m, dir := some n.dir, order := none } : Circuit).setTx n.dir.newPath true ∧
        (∃ v, t.move? m = some v ∧ v.circuit = c ∧ v.role = .responder ∧ v.kind = .hitless ∧ v.dir = n.dir ∧
          v.tag = s.moves.tagCounter ∧ v.peerTag = some n.tag ∧ v.request = none ∧ v.order = none ∧
          (n.dir = .toSpan ∧ s.copperAvail (trunkOf c) = false → v.rollDue = some ⟨s.now + 1, .rescue⟩) ∧
          (¬ (n.dir = .toSpan ∧ s.copperAvail (trunkOf c) = false) → (s.circ c).busy = false →
            v.rollDue = some ⟨nextBoundary s.now, .idleRoll⟩)) ∧
        t.align.queue = s.align.queue ++ [⟨c, true⟩] ∧
        t.link.outQ = s.link.outQ ++ [⟨answerTo n .bridge, none⟩]) ∧
    (∀ c, FindsAtRest s n c → (s.circ c).state = n.dir.startRest → s.freeMove? = none ∨ readyFor s c n.dir = false →
      ∃ t, exec .bridgeReceived s = .next t ∧ TakenOnly s t ∧ t.link.outQ = s.link.outQ) ∧
    (∀ c, FindsAtRest s n c → (s.circ c).state ≠ n.dir.startRest →
      ∃ t, exec .bridgeReceived s = .next t ∧ TakenOnly s t ∧
        t.link.outQ = s.link.outQ ++ [⟨refusalOf n .direction .bridge, none⟩]) ∧
    ∀ m v, FindsInFlight s n m v → (s.circ v.circuit).state.hitless = true → (s.circ v.circuit).state ≠ .bridging →
      (∀ p, v.peerTag = some p → p ≠ n.tag →
        ∃ t, exec .bridgeReceived s = .next t ∧ TakenOnly s t ∧
          t.link.outQ = s.link.outQ ++ [⟨refusalOf n .sequence .bridge, none⟩]) ∧
      (v.peerTag = none ∨ v.peerTag = some n.tag →
      ∃ t, exec .bridgeReceived s = .next t ∧ TakenFor s t v.circuit m ∧ t.circuits = s.circuits ∧
        t.move? m = some { v with peerTag := some n.tag } ∧
        t.link.outQ = s.link.outQ ++ [⟨answerTo n .bridge, none⟩])

/-- ROLLED_RECEIVED (R94, R95): in an in-flight hitless state it is answered NOTED and sets peer-rolled, and in ROLLED with
own-rolled-noted it starts the soak; in BLOCKING and SWAPPING it is refused with SEQUENCE (the table of 5.11); at the target rest state it is answered NOTED; at the starting rest state it is refused
with SEQUENCE.
RELEASE_RECEIVED (R96): in ROLLED the circuit releases its old transmit path, answers RELEASED and completes with the
roll's result; in another in-flight state, and at the starting rest state, it is refused with SEQUENCE; at the target rest
state it is answered RELEASED. -/
def Obligations.RolledAndReleaseReceived : Prop :=
  (∀ (s : State) (n : Notice), NoticeAtHead s n → n.kind = .req .rolled →
    (∀ m v, FindsInFlight s n m v → (s.circ v.circuit).state.hitless = true →
      ∃ t, exec .rolledReceived s = .next t ∧ TakenFor s t v.circuit m ∧ t.circuits = s.circuits ∧
        (∃ w, t.move? m = some w ∧ w.peerRolled = true ∧ w.progress = .stopped ∧
          w.peerTag = some (v.peerTag.getD n.tag) ∧ w.request = v.request ∧ w.rollDue = v.rollDue ∧
          ((s.circ v.circuit).state = .rolled → v.peerRolled = false → v.ownRolledNoted = true → s.params.soak ≠ 0 →
            w.soak = .counting 0) ∧
          ((s.circ v.circuit).state = .rolled → v.peerRolled = false → v.ownRolledNoted = true → s.params.soak = 0 →
            w.soak = .due 0) ∧
          ((s.circ v.circuit).state ≠ .rolled → w.soak = v.soak)) ∧
        t.link.outQ = s.link.outQ ++ [⟨answerTo n .rolled, none⟩]) ∧
    (∀ m v, FindsInFlight s n m v → (s.circ v.circuit).state = .blocking ∨ (s.circ v.circuit).state = .swapping →
      ∃ t, exec .rolledReceived s = .next t ∧ TakenOnly s t ∧
        t.link.outQ = s.link.outQ ++ [⟨refusalOf n .sequence .rolled, none⟩]) ∧
    (∀ c, FindsAtRest s n c → (s.circ c).state = n.dir.targetRest →
      ∃ t, exec .rolledReceived s = .next t ∧ TakenOnly s t ∧
        t.link.outQ = s.link.outQ ++ [⟨answerTo n .rolled, none⟩]) ∧
    ∀ c, FindsAtRest s n c → (s.circ c).state = n.dir.startRest →
      ∃ t, exec .rolledReceived s = .next t ∧ TakenOnly s t ∧
        t.link.outQ = s.link.outQ ++ [⟨refusalOf n .sequence .rolled, none⟩]) ∧
  ∀ (s : State) (n : Notice), NoticeAtHead s n → n.kind = .req .release →
    (∀ m v r, FindsInFlight s n m v → (s.circ v.circuit).state = .rolled → v.made = some r →
      ∃ t, exec .releaseReceived s = .next t ∧ TakenFor s t v.circuit m ∧ t.move? m = none ∧
        (t.circ v.circuit).restsAt n.dir.targetRest ∧ (t.circ v.circuit).lastResult = some r ∧
        t.link.outQ = withoutOwned m s.link.outQ ++ [⟨answerTo n .release, none⟩]) ∧
    (∀ m v, FindsInFlight s n m v → (s.circ v.circuit).state ≠ .rolled →
      ∃ t, exec .releaseReceived s = .next t ∧ TakenOnly s t ∧
        t.link.outQ = s.link.outQ ++ [⟨refusalOf n .sequence .release, none⟩]) ∧
    (∀ c, FindsAtRest s n c → (s.circ c).state = n.dir.targetRest →
      ∃ t, exec .releaseReceived s = .next t ∧ TakenOnly s t ∧
        t.link.outQ = s.link.outQ ++ [⟨answerTo n .release, none⟩]) ∧
    ∀ c, FindsAtRest s n c → (s.circ c).state = n.dir.startRest →
      ∃ t, exec .releaseReceived s = .next t ∧ TakenOnly s t ∧
        t.link.outQ = s.link.outQ ++ [⟨refusalOf n .sequence .release, none⟩]

/-- ABANDON_RECEIVED (R86, R87, R99, R100): with the recorded peer tag, or with none recorded, it is answered ABANDONED and
ends the move at the starting rest state, in BLOCKING and SWAPPING with the block cleared; the fault is ABANDONED_BY_PEER
except in ABANDONING, whose fault stands. A rolled circuit's return is a rollback. With another tag, or at rest, it is
only answered. Its direction is not checked (R159, R164): the same holds of one whose direction is not the move's.
Choice of the model: the tag is checked in every in-flight state (log 17). -/
def Obligations.AbandonReceived : Prop :=
  ∀ (s : State) (n : Notice), NoticeAtHead s n → n.kind = .req .abandon →
    let finds (m : MoveId) (v : Move) : Prop :=
      s.map.directory.get n.slot = some v.circuit ∧ (s.circ v.circuit).moveSlot = some m ∧ s.move? m = some v
    (∀ m v, finds m v → (s.circ v.circuit).state.atRest = false →
      v.peerTag = none ∨ v.peerTag = some n.tag →
      ∃ t, exec .abandonReceived s = .next t ∧ TakenFor s t v.circuit m ∧ t.move? m = none ∧
        (t.circ v.circuit).restsAt v.dir.startRest ∧
        ((s.circ v.circuit).state = .blocking ∨ (s.circ v.circuit).state = .swapping →
          (t.circ v.circuit).blocked = false) ∧
        ((s.circ v.circuit).state ≠ .abandoning →
          (t.circ v.circuit).lastFault = some .abandonedByPeer ∧ t.pendingCause .moveFailed) ∧
        ((s.circ v.circuit).state = .abandoning → (t.circ v.circuit).lastFault = (s.circ v.circuit).lastFault) ∧
        ((s.circ v.circuit).state = .rolled → (s.circ v.circuit).sel = v.dir.newPath →
          (t.circ v.circuit).freeze = some { code := (s.circ v.circuit).heard,
                                             endFrame := s.now + BitVec.ofNat 32 (16 * s.params.freezeNow) }) ∧
        (∀ e ∈ t.align.queue, e.circuit ≠ v.circuit) ∧
        t.link.outQ = withoutOwned m s.link.outQ ++ [⟨answerTo n .abandon, none⟩]) ∧
    (∀ m v p, finds m v → v.peerTag = some p → p ≠ n.tag →
      ∃ t, exec .abandonReceived s = .next t ∧ TakenOnly s t ∧
        t.link.outQ = s.link.outQ ++ [⟨answerTo n .abandon, none⟩]) ∧
    ∀ c, FindsAtRest s n c →
      ∃ t, exec .abandonReceived s = .next t ∧ TakenOnly s t ∧
        t.link.outQ = s.link.outQ ++ [⟨answerTo n .abandon, none⟩]

/-- BLOCKED_RECEIVED (R84): the initiator whose circuit is idle swaps its paths, keeps its block and sends SWAP; the busy
one clears its block, sends ABANDON once and fails with SEIZED.
SWAPPED_RECEIVED (R86): the swap completes at the target rest state, the block cleared, with result COLD or FORCE.
RELEASED_RECEIVED (R96): the release completes with the roll's result. ABANDONED_RECEIVED (R99): the abandon ends at the
starting rest state, and the fault stands.
BRIDGED_RECEIVED (R89, R90): the circuit enters BRIDGED and joins the tail of the alignment queue. NOTED_RECEIVED (R94,
R95): own-rolled-noted is set, and with peer-rolled the soak starts.
Choice of the model: the replay 0 in the result of a swap (log 44). -/
def Obligations.AnswersReceived : Prop :=
  (∀ (s : State) (n : Notice) (m : MoveId) (v : Move),
    NoticeAtHead s n → n.kind = .ans .block → Answers s n .block m v → (s.circ v.circuit).state = .blocking →
    ((s.circ v.circuit).busy = false →
      ∃ t, exec .blockedReceived s = .next t ∧ TakenFor s t v.circuit m ∧
        (t.circ v.circuit).state = .swapping ∧ (t.circ v.circuit).sel = v.dir.newPath ∧
        (t.circ v.circuit).depth v.dir.newPath = 0 ∧ (t.circ v.circuit).blocked = (s.circ v.circuit).blocked ∧
        ((t.circ v.circuit).cuTx = true ↔ v.dir.newPath = .copper) ∧
        ((t.circ v.circuit).spTx = true ↔ v.dir.newPath = .span) ∧
        (t.circ v.circuit).freeze = (s.circ v.circuit).freeze ∧
        t.move? m = some { v with request := some (freshRequest s .swap false) } ∧
        t.link.outQ = withoutOwned m s.link.outQ ++ [sending m v .swap false n.slot]) ∧
    ((s.circ v.circuit).busy = true →
      ∃ t, exec .blockedReceived s = .next t ∧ TakenFor s t v.circuit m ∧ t.move? m = none ∧
        (t.circ v.circuit).restsAt v.dir.startRest ∧ (t.circ v.circuit).blocked = false ∧
        (t.circ v.circuit).lastFault = some .seized ∧ t.pendingCause .moveFailed ∧
        t.link.outQ = withoutOwned m s.link.outQ ++ [{ sending m v .abandon false n.slot with owner := none }])) ∧
  (∀ (s : State) (n : Notice) (m : MoveId) (v : Move), NoticeAtHead s n →
    (n.kind = .ans .swap → Answers s n .swap m v →
      ∃ t, exec .swappedReceived s = .next t ∧ TakenFor s t v.circuit m ∧ t.move? m = none ∧
        (t.circ v.circuit).restsAt v.dir.targetRest ∧ (t.circ v.circuit).blocked = false ∧
        (t.circ v.circuit).lastResult =
          some { kind := if v.kind = .force then .force else .cold, lag := none, replay := 0 } ∧
        t.link.outQ = withoutOwned m s.link.outQ) ∧
    (∀ r, n.kind = .ans .release → Answers s n .release m v → v.made = some r →
      ∃ t, exec .releasedReceived s = .next t ∧ TakenFor s t v.circuit m ∧ t.move? m = none ∧
        (t.circ v.circuit).restsAt v.dir.targetRest ∧ (t.circ v.circuit).lastResult = some r ∧
        t.link.outQ = withoutOwned m s.link.outQ) ∧
    (n.kind = .ans .abandon → Answers s n .abandon m v →
      ∃ t, exec .abandonedReceived s = .next t ∧ TakenFor s t v.circuit m ∧ t.move? m = none ∧
        (t.circ v.circuit).restsAt v.dir.startRest ∧ (t.circ v.circuit).lastFault = (s.circ v.circuit).lastFault ∧
        t.link.outQ = withoutOwned m s.link.outQ)) ∧
  ∀ (s : State) (n : Notice) (m : MoveId) (v : Move), NoticeAtHead s n →
    (n.kind = .ans .bridge → Answers s n .bridge m v →
      ∃ t, exec .bridgedReceived s = .next t ∧ TakenFor s t v.circuit m ∧
        t.circ v.circuit = { s.circ v.circuit with state := .bridged } ∧
        t.align.queue = s.align.queue ++ [⟨v.circuit, true⟩] ∧
        (∃ w, t.move? m = some w ∧ w.request = none ∧
          (v.dir = .toSpan ∧ s.copperAvail (trunkOf v.circuit) = false → v.rollDue = none →
            w.rollDue = some ⟨s.now + 1, .rescue⟩) ∧
          (¬ (v.dir = .toSpan ∧ s.copperAvail (trunkOf v.circuit) = false) → (s.circ v.circuit).busy = false →
            v.rollDue = none → w.rollDue = some ⟨nextBoundary s.now, .idleRoll⟩) ∧
          (¬ (v.dir = .toSpan ∧ s.copperAvail (trunkOf v.circuit) = false) → (s.circ v.circuit).busy = true →
            w.rollDue = v.rollDue)) ∧
        t.link.outQ = withoutOwned m s.link.outQ) ∧
    (n.kind = .ans .rolled → Answers s n .rolled m v →
      ∃ t, exec .notedReceived s = .next t ∧ TakenFor s t v.circuit m ∧ t.circuits = s.circuits ∧
        (∃ w, t.move? m = some w ∧ w.request = none ∧ w.ownRolledNoted = true ∧
          (v.peerRolled = true → s.params.soak ≠ 0 → w.soak = .counting 0) ∧
          (v.peerRolled = true → s.params.soak = 0 → w.soak = .due 0) ∧
          (v.peerRolled = false → w.soak = v.soak)) ∧
        t.link.outQ = withoutOwned m s.link.outQ)

/-- REFUSE_RECEIVED (R86, R87, R98): of a BLOCK or SWAP it undoes the move without ABANDON, the block cleared; of a BRIDGE,
ROLLED or RELEASE it fails the move, which enters ABANDONING with ABANDON pending, a rolled circuit rolled back. The fault is
the refusal's reason. Of an ABANDON it only ends the pending request (log 18). -/
def Obligations.RefuseReceived : Prop :=
  ∀ (s : State) (n : Notice) (r : RefuseReason) (k : ReqKind) (m : MoveId) (v : Move),
    NoticeAtHead s n → n.kind = .refuse r k → Answers s n k m v →
    (k = .block ∨ k = .swap →
      ∃ t, exec .refuseReceived s = .next t ∧ TakenFor s t v.circuit m ∧ t.move? m = none ∧
        (t.circ v.circuit).restsAt v.dir.startRest ∧ (t.circ v.circuit).blocked = false ∧
        (t.circ v.circuit).lastFault = some r.fault ∧ t.pendingCause .moveFailed ∧
        t.link.outQ = withoutOwned m s.link.outQ) ∧
    (k = .bridge ∨ k = .rolled ∨ k = .release →
      ∃ t, exec .refuseReceived s = .next t ∧ TakenFor s t v.circuit m ∧
        (t.circ v.circuit).state = .abandoning ∧ (t.circ v.circuit).lastFault = some r.fault ∧
        ((s.circ v.circuit).state = .rolled → (t.circ v.circuit).sel = v.dir.oldPath) ∧
        (t.circ v.circuit).cuTx = (s.circ v.circuit).cuTx ∧ (t.circ v.circuit).spTx = (s.circ v.circuit).spTx ∧
        t.move? m = some { v with
          request := some (freshRequest s .abandon false), rollDue := none, progress := .stopped, quiet := .stopped,
          validity := .stopped, soak := .stopped } ∧
        (∀ e ∈ t.align.queue, e.circuit ≠ v.circuit) ∧
        (∀ i x, (t.align.corrs.get i).rec? = some x → x.circuit ≠ v.circuit) ∧
        t.pendingCause .moveFailed ∧
        t.link.outQ = withoutOwned m s.link.outQ ++ [sending m v .abandon false n.slot]) ∧
    (k = .abandon →
      ∃ t, exec .refuseReceived s = .next t ∧ TakenFor s t v.circuit m ∧ t.circuits = s.circuits ∧
        t.move? m = some { v with request := none } ∧ t.link.outQ = withoutOwned m s.link.outQ)

/-- R158, R159: an answer that matches no slot is discarded and counted stale; a request for an unmapped slot is refused
UNMAPPED, an ABANDON for one answered ABANDONED; a request of the other direction than the circuit's move, ABANDON apart,
is refused with DIRECTION. -/
def Obligations.StaleUnmappedAndDirection : Prop :=
  ∀ (s : State) (n : Notice), NoticeAtHead s n →
    (∀ k, n.kind = .ans k → matchSlot s n k = none →
      ∃ t, exec .noticeTaken s = .next t ∧ TakenOnly s t ∧ t.link.outQ = s.link.outQ ∧
        t.link.stale = bump s.link.stale) ∧
    (∀ r k, n.kind = .refuse r k → matchSlot s n k = none →
      ∃ t, exec .noticeTaken s = .next t ∧ TakenOnly s t ∧ t.link.outQ = s.link.outQ ∧
        t.link.stale = bump s.link.stale) ∧
    (∀ k, n.kind = .req k → s.map.directory.get n.slot = none →
      ∃ t, exec .noticeTaken s = .next t ∧ TakenOnly s t ∧
        t.link.outQ = s.link.outQ ++
          [⟨if k = .abandon then answerTo n .abandon else refusalOf n .unmapped k, none⟩]) ∧
    ∀ k c m v, n.kind = .req k → k ≠ .abandon → s.map.directory.get n.slot = some c → (s.circ c).moveSlot = some m →
      s.move? m = some v → v.dir ≠ n.dir →
      ∃ t, exec .noticeTaken s = .next t ∧ TakenOnly s t ∧
        t.link.outQ = s.link.outQ ++ [⟨refusalOf n .direction k, none⟩]

/-- R161 to R163: a BLOCK, SWAP or BRIDGE for a circuit in flight that is neither a repeat (R160) nor expected (R85). Where
the pending request is of its kind it is taken as that request's answer (R84, R86, R89), answered as its kind requires, and
its tag recorded when none is. Otherwise END A refuses it with CROSSED, whatever is pending, and so does END B unless a
BLOCK, SWAP or BRIDGE is. There END B leaves it unanswered while the circuit is not ready; a ready one retires END B's own
request: its local actions are undone, its move fails with CROSSED, and END A's request is handled as at the starting rest
state, by the table of R163.
Choices of the model: no END of its own (log 20), what the handed-over slot keeps (log 21), the order of two notices of one
frame (log 27), the replay 0 in the result of a swap (log 44). -/
def Obligations.Crossings : Prop :=
  ∀ (s : State) (n : Notice) (m : MoveId) (v : Move) (k : ReqKind),
    NoticeAtHead s n → FindsInFlight s n m v → n.kind = .req k → Crosses s n k v →
    let own := v.request.map Request.kind
    let r := s.circ v.circuit
    let ready := (s.trunk (trunkOf v.circuit)).insertion = .inserted ∧
      (v.dir = .toCopper → s.copperAvail (trunkOf v.circuit) = true)
    let rescued : Bool := v.dir = .toSpan && !s.copperAvail (trunkOf v.circuit)
    let left := withoutOwned m s.link.outQ
    ∃ t, exec (rowOf n) s = .next t ∧ TakenFor s t v.circuit m ∧
      (own = some k →
        (k = .block → r.busy = false → s.link.outQ.length + 1 < outboundSize →
          (t.circ v.circuit).state = .swapping ∧ (t.circ v.circuit).sel = v.dir.newPath ∧
          (t.circ v.circuit).depth v.dir.newPath = 0 ∧ (t.circ v.circuit).blocked = r.blocked ∧
          (∃ w, t.move? m = some w ∧ w = { v with
            request := some (freshRequest s .swap false), peerTag := some (v.peerTag.getD n.tag) }) ∧
          ((s.info v.circuit).slot = some n.slot →
            t.link.outQ = left ++ [sending m v .swap false n.slot, ⟨answerTo n .block, none⟩])) ∧
        (k = .block → r.busy = true → s.link.outQ.length + 1 < outboundSize →
          t.move? m = none ∧ (t.circ v.circuit).restsAt v.dir.startRest ∧ (t.circ v.circuit).blocked = false ∧
          (t.circ v.circuit).lastFault = some .seized ∧ t.pendingCause .moveFailed ∧
          ((s.info v.circuit).slot = some n.slot →
            t.link.outQ =
              left ++ [{ sending m v .abandon false n.slot with owner := none }, ⟨answerTo n .block, none⟩])) ∧
        (k = .bridge →
          t.circ v.circuit = { r with state := .bridged } ∧ t.align.queue = s.align.queue ++ [⟨v.circuit, true⟩] ∧
          (∃ w, t.move? m = some w ∧ w.request = none ∧ w.peerTag = some (v.peerTag.getD n.tag) ∧ w.role = v.role ∧
            w.tag = v.tag) ∧
          t.link.outQ = left ++ [⟨answerTo n .bridge, none⟩]) ∧
        (k = .swap →
          t.move? m = none ∧ (t.circ v.circuit).restsAt v.dir.targetRest ∧ (t.circ v.circuit).blocked = false ∧
          (t.circ v.circuit).lastResult =
            some { kind := if v.kind = .force then .force else .cold, lag := none, replay := 0 } ∧
          t.link.outQ = left ++ [⟨answerTo n .swap, none⟩])) ∧
      (own ≠ some k →
        strapEnd s.dev.straps ≠ some .b ∨ (own ≠ some .block ∧ own ≠ some .swap ∧ own ≠ some .bridge) →
        t.circuits = s.circuits ∧ t.moves = s.moves ∧ t.link.outQ = s.link.outQ ++ [⟨refusalOf n .crossed k, none⟩]) ∧
      (own ≠ some k → strapEnd s.dev.straps = some .b → own = some .block ∨ own = some .swap ∨ own = some .bridge →
        (¬ ready → t.circuits = s.circuits ∧ t.moves = s.moves ∧ t.link.outQ = s.link.outQ) ∧
        (ready →
          let busy := if own = some .swap then
              callBusy (s.trunk (trunkOf v.circuit)).codes { r with sel := v.dir.oldPath } else r.busy
          let blocked : Bool := own = some .bridge && r.blocked
          let heldBy (kind : MoveKind) (w : Move) : Prop :=
            w.circuit = v.circuit ∧ w.dir = v.dir ∧ w.tag = v.tag ∧ w.role = .responder ∧ w.kind = kind ∧
            w.peerTag = some n.tag ∧ w.request = none ∧ w.order = none ∧ w.result = none ∧ w.quiet = .stopped ∧
            w.validity = .stopped ∧ w.soak = .stopped
          let resting := t.move? m = none ∧ (t.circ v.circuit).restsAt v.dir.startRest ∧
            (t.circ v.circuit).blocked = blocked
          (t.circ v.circuit).lastFault = some .crossed ∧ t.pendingCause .moveFailed ∧
          (k = .block → busy = false →
            (t.circ v.circuit).state = .blocking ∧ (t.circ v.circuit).blocked = true ∧
            (own = some .swap → (t.circ v.circuit).sel = v.dir.oldPath) ∧
            (own = some .bridge ∨ own = some .swap → (v.dir = .toSpan → (t.circ v.circuit).spTx = false) ∧
              (v.dir = .toCopper → (t.circ v.circuit).cuTx = false)) ∧
            (∃ w, t.move? m = some w ∧ heldBy .cold w ∧ w.progress = .counting 0 ∧ w.rollDue = none) ∧
            t.link.outQ = left ++ [⟨answerTo n .block, none⟩]) ∧
          (k = .block → busy = true → resting ∧ t.link.outQ = left ++ [⟨refusalOf n .busyCall .block, none⟩]) ∧
          (k = .bridge →
            (t.circ v.circuit).state = .bridged ∧ (t.circ v.circuit).blocked = false ∧
            (t.circ v.circuit).sel = (if own = some .swap then v.dir.oldPath else r.sel) ∧
            (v.dir = .toSpan → (t.circ v.circuit).spTx = true) ∧
            (v.dir = .toCopper → (t.circ v.circuit).cuTx = true) ∧
            (∃ w, t.move? m = some w ∧ heldBy .hitless w ∧
              w.rollDue = if rescued then some ⟨s.now + 1, .rescue⟩
                else if busy = true then none else some ⟨nextBoundary s.now, .idleRoll⟩) ∧
            t.align.queue = s.align.queue ++ [⟨v.circuit, true⟩] ∧
            t.link.outQ = left ++ [⟨answerTo n .bridge, none⟩]) ∧
          (k = .swap → n.force = true →
            t.move? m = none ∧ (t.circ v.circuit).restsAt v.dir.targetRest ∧ (t.circ v.circuit).blocked = blocked ∧
            (t.circ v.circuit).lastResult = some { kind := .force, lag := none, replay := 0 } ∧
            t.link.outQ = left ++ [⟨answerTo n .swap, none⟩]) ∧
          (k = .swap → n.force = false → resting ∧ t.link.outQ = left ++ [⟨refusalOf n .sequence .swap, none⟩])))

/-! Timers, the roll, alignment and orders -/

/-- REPEAT_TIMER_EXPIRY (R153, R86, R87, R96, R98, R99): with tries left the request is sent again, or, its last sending
still queued, only waits again; with none left the move takes the outcome of its request's kind.
PEER_PROGRESS_EXPIRY (R85, R94): in BLOCKING the move ends with PEER_STALL and ABANDON is sent once, owned by no slot; in
ROLLED it fails, ABANDON its pending request. QUIET_WAIT_EXPIRY (R92), VALIDITY_EXPIRY (R91) and SOAK_EXPIRY (R95).
Choice of the model: a due timer waits for its row (logs 2 and 15). -/
def Obligations.MoveTimersExpire : Prop :=
  (∀ (s : State) (m : MoveId) (v : Move) (sl : SlotId) (q : Request),
    InFlightWith s m v sl → v.request = some q → q.timer.isDue = true →
    (q.tries ≠ 0 → sendingQueued m s = false →
      ∃ t, exec (.repeatTimerExpiry m) s = .next t ∧ OnlyMoveOf s t v.circuit m ∧ t.circuits = s.circuits ∧
        t.move? m = some { v with request := some { q with tries := q.tries - 1, timer := .counting 0 } } ∧
        t.link.outQ = s.link.outQ ++ [sending m v q.kind q.force sl]) ∧
    (q.tries ≠ 0 → sendingQueued m s = true →
      exec (.repeatTimerExpiry m) s =
        .next (s.modMove m fun w => { w with request := some { q with timer := .counting 0 } })) ∧
    (q.tries = 0 →
      ∃ t, exec (.repeatTimerExpiry m) s = .next t ∧ OnlyMoveOf s t v.circuit m ∧
        (q.kind = .block → t.move? m = none ∧ (t.circ v.circuit).restsAt v.dir.startRest ∧
          (t.circ v.circuit).blocked = false ∧ (t.circ v.circuit).lastFault = some .peerTimeout ∧
          t.pendingCause .moveFailed ∧
          t.link.outQ = withoutOwned m s.link.outQ ++ [{ sending m v .abandon false sl with owner := none }]) ∧
        (q.kind = .swap → t.move? m = none ∧ (t.circ v.circuit).restsAt v.dir.startRest ∧
          (t.circ v.circuit).blocked = true ∧ (t.circ v.circuit).lastFault = some .swapUnresolved ∧
          t.pendingCause .moveFailed ∧ t.link.outQ = withoutOwned m s.link.outQ) ∧
        (q.kind = .bridge ∨ q.kind = .rolled → FailedInto s t m v .peerTimeout ∧
          t.link.outQ = withoutOwned m s.link.outQ ++ [sending m v .abandon false sl]) ∧
        (∀ r, q.kind = .release → v.made = some r → t.move? m = none ∧
          (t.circ v.circuit).restsAt v.dir.targetRest ∧ (t.circ v.circuit).lastResult = some r ∧
          t.link.outQ = withoutOwned m s.link.outQ) ∧
        (q.kind = .abandon → t.move? m = none ∧ (t.circ v.circuit).restsAt v.dir.startRest ∧
          (t.circ v.circuit).lastFault = (s.circ v.circuit).lastFault ∧ t.link.outQ = withoutOwned m s.link.outQ))) ∧
  ∀ (s : State) (m : MoveId) (v : Move) (sl : SlotId), InFlightWith s m v sl →
    (v.progress.isDue = true → (s.circ v.circuit).state = .blocking →
      ∃ t, exec (.peerProgressExpiry m) s = .next t ∧ OnlyMoveOf s t v.circuit m ∧ t.move? m = none ∧
        (t.circ v.circuit).restsAt v.dir.startRest ∧ (t.circ v.circuit).blocked = false ∧
        (t.circ v.circuit).lastFault = some .peerStall ∧ t.pendingCause .moveFailed ∧
        t.link.outQ = withoutOwned m s.link.outQ ++ [{ sending m v .abandon false sl with owner := none }]) ∧
    (v.progress.isDue = true → (s.circ v.circuit).state = .rolled →
      ∃ t, exec (.peerProgressExpiry m) s = .next t ∧ OnlyMoveOf s t v.circuit m ∧ FailedInto s t m v .peerStall ∧
        t.link.outQ = withoutOwned m s.link.outQ ++ [sending m v .abandon false sl]) ∧
    (v.quiet.isDue = true → (s.circ v.circuit).state.awaitsRoll = true →
      ∃ t, exec (.quietWaitExpiry m) s = .next t ∧ OnlyMoveOf s t v.circuit m ∧ FailedInto s t m v .rollWaitTimeout ∧
        t.link.outQ = withoutOwned m s.link.outQ ++ [sending m v .abandon false sl]) ∧
    (v.validity.isDue = true → (s.circ v.circuit).state = .aligned →
      ∃ t, exec (.validityExpiry m) s = .next t ∧ OnlyMoveOf s t v.circuit m ∧
        t.circ v.circuit = { s.circ v.circuit with state := .bridged } ∧
        (∃ w, t.move? m = some w ∧ w.result = none ∧ w.validity = .stopped ∧ w.quiet = v.quiet ∧
          ∀ d, w.rollDue = some d → d.kind ≠ .hitless) ∧
        t.align.queue = s.align.queue ++ [⟨v.circuit, true⟩] ∧ t.link = s.link) ∧
    (v.soak.isDue = true → (s.circ v.circuit).state = .rolled →
      ∃ t, exec (.soakExpiry m) s = .next t ∧ OnlyMoveOf s t v.circuit m ∧ t.circuits = s.circuits ∧
        ((s.info v.circuit).pin = true →
          t.move? m = some { v with soak := .expired v.soak.count } ∧ t.link = s.link) ∧
        ((s.info v.circuit).pin = false → v.request = none →
          t.move? m =
            some { v with soak := .expired v.soak.count, request := some (freshRequest s .release false) } ∧
          t.link.outQ = withoutOwned m s.link.outQ ++ [sending m v .release false sl]))

/-- ROLL_MADE (R93, R67, R97, R64, R69 to R71): the roll due is made at its frame, and in no other, as `RolledAs` says: the
switch hears the new path at the confirmed depth, or at 0 without a result; the code heard before is frozen; the circuit is
conditioned or not, and its call state judged, by the new path; ROLLED is the pending request; the result is held. It is of
the kind that is due; an idle roll due in ROLL_PENDING at a quiet boundary not yet tested is of kind HITLESS.
Choice of the model: its order against the quiet test (log 28). -/
def Obligations.RollMade : Prop :=
  ∀ (s : State) (m : MoveId) (v : Move) (sl : SlotId) (d : RollDue), InFlightWith s m v sl → v.rollDue = some d →
    let old := (List.range s.params.window).map fun j =>
      histOctet s v.circuit v.dir.oldPath
        (s.now - BitVec.ofNat 32 s.params.window - ((s.circ v.circuit).depth v.dir.oldPath).setWidth 32 +
          BitVec.ofNat 32 j)
    let quietWait := d.kind = .idleRoll ∧ (s.circ v.circuit).state = .rollPending ∧ v.tested = false ∧
      old.eraseDups.length < s.params.distinct
    (d.frame ≠ s.now → exec (.rollMade m) s = .next s) ∧
    (d.frame = s.now → quietWait → ∃ t, exec (.rollMade m) s = .next t ∧ RolledAs s t m v sl .hitless) ∧
    (d.frame = s.now → ¬ quietWait → ∃ t, exec (.rollMade m) s = .next t ∧ RolledAs s t m v sl d.kind)

/-- CORRELATOR_GRANT (R115, R116): one grant. The head of the queue, unless it joined in this frame, takes the
lowest-numbered correlator that was free before this frame, with a record filled at the grant; otherwise nothing changes.
Choice of the model: one grant a command (log 32). -/
def Obligations.CorrelatorGranted : Prop :=
  ∀ s : State, s.dev.powered = true →
    (∀ (e : QueueEntry) (rest : List QueueEntry) (i : CorrId) (d : Dir), s.align.queue = e :: rest → e.fresh = false →
      (s.align.corrs.get i).rec? = none → (s.align.corrs.get i).justFreed = false →
      (∀ j, j < i → (s.align.corrs.get j).rec? ≠ none ∨ (s.align.corrs.get j).justFreed = true) →
      (s.circ e.circuit).dir = some d →
      ∃ t, exec .correlatorGrant s = .next t ∧ t = { s with align := t.align } ∧ t.align.queue = rest ∧
        (t.align.corrs.get i).rec? =
          some { circuit := e.circuit, dir := d, oldDepth := (s.circ e.circuit).depth d.oldPath,
                 window := s.params.window, distinct := s.params.distinct, e0 := s.now, next := 1, cand := none,
                 noneStreak := 0, timeout := .counting 0 } ∧
        (∀ j, j ≠ i → t.align.corrs.get j = s.align.corrs.get j) ∧
        t.align.history = s.align.history ∧ t.align.copperMark = s.align.copperMark ∧ t.align.spanMark = s.align.spanMark) ∧
    (s.align.queue = [] ∨ (∃ e rest, s.align.queue = e :: rest ∧ e.fresh = true) ∨
      (∀ j, (s.align.corrs.get j).rec? ≠ none ∨ (s.align.corrs.get j).justFreed = true) →
      exec .correlatorGrant s = .next s)

/-- WINDOW_EVALUATION (R118 to R124, R91) in the window's end frame, e0 + (j - 1) W for window j, plus 32: a window passed over or QUIET only counts, the
others act on candidate and streak as `Measure.after` says; the eighth NONE in succession fails the move, and the second
UNIQUE of one lag L confirms it, with depth -L and replay 0 for L of 0 or less, and depth 0 and replay L above. In another
frame nothing.
R112, R113, R119 to R121: a window is passed over when a frame that it reads lies before the mark of its path, a mark 512
frames old restricting nothing; else it is QUIET when its octets of the old stream have fewer than A values; else a lag of the
288 matches when the new stream repeats at it every one of those octets, and the window is NONE, UNIQUE or MULTI by how many
match.
Choice of the model: how a frame is compared with a mark (log 25). -/
def Obligations.WindowEvaluated : Prop :=
  let endFrame (x : Measure) : Frame := x.e0 + BitVec.ofNat 32 ((x.next - 1) * x.window)
  let result (l : Int) : AlignResult :=
    { lag := l, depth := if l ≤ 0 then BitVec.ofNat 8 (-l).toNat else 0, replay := if l ≤ 0 then 0 else l.toNat }
  (∀ mark now f : Frame,
    ((now - mark).toNat < 512 ∨ (mark - now).toNat ≤ 16 →
      (atOrAfterMark mark now f = true ↔ (f - mark).toNat < 2 ^ 31)) ∧
    (512 ≤ (now - mark).toNat → 16 < (mark - now).toNat → atOrAfterMark mark now f = true)) ∧
  (∀ (s : State) (x : Measure),
    let first := endFrame x - BitVec.ofNat 32 x.window + 1
    let old (i : Nat) : Byte :=
      histOctet s x.circuit x.dir.oldPath (first + BitVec.ofNat 32 i - x.oldDepth.setWidth 32)
    let new (i : Nat) (lag : Int) : Byte :=
      histOctet s x.circuit x.dir.newPath (first + BitVec.ofNat 32 i + BitVec.ofInt 32 lag)
    let mark (p : Path) : Frame :=
      match p with
      | .copper => s.align.copperMark.get (trunkOf x.circuit)
      | .span => s.align.spanMark
    let whole := atOrAfterMark (mark x.dir.oldPath) s.now (first - x.oldDepth.setWidth 32) = true ∧
      atOrAfterMark (mark x.dir.newPath) s.now (first - 255) = true
    let values := (((List.range x.window).map old).eraseDups).length
    let matching (lag : Int) : Prop := -255 ≤ lag ∧ lag ≤ 32 ∧ ∀ i : Nat, i < x.window → new i lag = old i
    (x.evaluate s = .passed ↔ ¬ whole) ∧
    (x.evaluate s = .quiet ↔ whole ∧ values < x.distinct) ∧
    (x.evaluate s = .none ↔ whole ∧ x.distinct ≤ values ∧ ∀ l, ¬ matching l) ∧
    (∀ lag, x.evaluate s = .unique lag ↔
      whole ∧ x.distinct ≤ values ∧ matching lag ∧ ∀ l, matching l → l = lag) ∧
    (x.evaluate s = .multi ↔ whole ∧ x.distinct ≤ values ∧ ∃ l l', l ≠ l' ∧ matching l ∧ matching l')) ∧
  ∀ (s : State) (i : CorrId) (x : Measure), s.dev.powered = true → (s.align.corrs.get i).rec? = some x →
    (s.now ≠ endFrame x + 32 → exec (.windowEvaluation i) s = .next s) ∧
    (s.now = endFrame x + 32 →
      (∀ y : Measure, x.after (x.evaluate s) = some y →
        ∃ t, exec (.windowEvaluation i) s = .next t ∧ t = { s with align := t.align } ∧
          (t.align.corrs.get i).rec? = some y ∧ (∀ j, j ≠ i → t.align.corrs.get j = s.align.corrs.get j) ∧
          t.align.queue = s.align.queue) ∧
      ∀ (m : MoveId) (v : Move) (sl : SlotId), InFlightWith s m v sl → v.circuit = x.circuit →
        (s.circ v.circuit).moveSlot = some m → (s.circ v.circuit).state = .bridged →
        (x.evaluate s = .none → x.noneStreak = 7 →
          ∃ t, exec (.windowEvaluation i) s = .next t ∧ OnlyMoveOf s t v.circuit m ∧ FailedInto s t m v .noMatch ∧
            t.link.outQ = withoutOwned m s.link.outQ ++ [sending m v .abandon false sl]) ∧
        ∀ l, x.evaluate s = .unique l → x.cand = some l →
          ∃ t, exec (.windowEvaluation i) s = .next t ∧ OnlyMoveOf s t v.circuit m ∧
            (t.align.corrs.get i).rec? = none ∧
            (∃ w, t.move? m = some w ∧ w.result = some (result l)) ∧
            (v.rollDue ≠ none → (t.circ v.circuit).state = .aligned ∧
              ∃ w, t.move? m = some w ∧ w.rollDue = v.rollDue) ∧
            (v.rollDue = none → (s.info v.circuit).rollOnCommand = true → (t.circ v.circuit).state = .aligned ∧
              ∃ w, t.move? m = some w ∧ w.rollDue = none ∧ w.validity = .counting 0) ∧
            (v.rollDue = none → (s.info v.circuit).rollOnCommand = false → DecidedRoll s t m v (result l)))

/-- ALIGNMENT_TIMEOUT (R117): the measurement ends and its move fails. QUIET_TEST (R126, R92): at a multiframe boundary a
circuit in ROLL_PENDING whose W octets of the old stream before it hold fewer than A distinct values rolls with its
confirmed depth and kind HITLESS; another waits, tested once in the frame. A rescue roll given overrides the wait, and no
test is made (R105).
Choices of the model: rolls that meet (log 28), W and A changed in the frame of the boundary (log 37). -/
def Obligations.AlignmentTimeoutAndQuietTest : Prop :=
  (∀ (s : State) (i : CorrId) (x : Measure) (m : MoveId) (v : Move) (sl : SlotId), InFlightWith s m v sl →
    (s.align.corrs.get i).rec? = some x → x.timeout.isDue = true → v.circuit = x.circuit →
    (s.circ v.circuit).moveSlot = some m →
    ∃ t, exec (.alignmentTimeout i) s = .next t ∧ OnlyMoveOf s t v.circuit m ∧ FailedInto s t m v .alignTimeout ∧
      t.link.outQ = withoutOwned m s.link.outQ ++ [sending m v .abandon false sl]) ∧
  (∀ (s : State) (m : MoveId) (v : Move), s.dev.powered = true → s.move? m = some v →
    ((s.circ v.circuit).state ≠ .rollPending ∨ s.now.toNat % 16 ≠ 0 ∨ v.tested = true ∨
      v.rollDue.map RollDue.kind = some .rescue) →
    exec (.quietTest m) s = .next s) ∧
  ∀ (s : State) (m : MoveId) (v : Move) (sl : SlotId), InFlightWith s m v sl →
    (s.circ v.circuit).state = .rollPending → s.now.toNat % 16 = 0 → v.tested = false →
    (∀ d, v.rollDue = some d → d.kind ≠ .rescue) →
    let old := (List.range s.params.window).map fun j =>
      histOctet s v.circuit v.dir.oldPath
        (s.now - BitVec.ofNat 32 s.params.window - ((s.circ v.circuit).depth v.dir.oldPath).setWidth 32 +
          BitVec.ofNat 32 j)
    (s.params.distinct ≤ old.eraseDups.length →
      exec (.quietTest m) s = .next (s.modMove m fun w => { w with tested := true })) ∧
    (old.eraseDups.length < s.params.distinct →
      ∃ t, exec (.quietTest m) s = .next t ∧ RolledAs s t m v sl .hitless)

/-- R112, R127 to R129: a slip in frame `f` is the mark of its copper, or of the span. A measured circuit in BRIDGED begins
its windows anew at `f` + 1 with W and A as they stand and keeps its timeout. A circuit in ALIGNED or ROLL_PENDING loses its
result and a HITLESS roll due and returns to BRIDGED (R90). The alignment queue keeps its entries in their places, and those
circuits join its tail, once each, in the order of their move slots. Every other circuit, and the circuits of other trunks
where the slip is a copper's, stay as they are.
A SITE_FRAME marks with the frame that it opens every copper that slips in it, by a read or by a deletion made since the
frame before, and the span likewise; a slip of a switch port marks nothing (R7).
Choices of the model: the frame of a deletion (log 5), the order of the circuits of one slip (log 19), the place of a repetition
in its frame (log 41), the order of the slips of several stores in one frame (log 46). -/
def Obligations.SlipsReachMarksAndMoves : Prop :=
  let slipped (s t : State) (f : Frame) (m : MoveId) (v : Move) : Prop :=
    ((s.circ v.circuit).state = .bridged →
      t.circ v.circuit = s.circ v.circuit ∧ t.move? m = some v ∧
      ∀ i x, (s.align.corrs.get i).rec? = some x → x.circuit = v.circuit →
        (t.align.corrs.get i).rec? = some { x with
          e0 := f + 1, next := 1, cand := none, noneStreak := 0, window := s.params.window,
          distinct := s.params.distinct }) ∧
    ((s.circ v.circuit).state = .aligned ∨ (s.circ v.circuit).state = .rollPending →
      t.circ v.circuit = { s.circ v.circuit with state := .bridged } ∧
      ∃ w, t.move? m = some w ∧ w = { v with rollDue := w.rollDue, result := none, validity := .stopped } ∧
        (∀ d, v.rollDue = some d → d.kind = .rescue → w.rollDue = some d) ∧
        (¬ (v.dir = .toSpan ∧ s.copperAvail (trunkOf v.circuit) = false) →
          (∀ d, v.rollDue = some d → d.kind = .idleRoll → w.rollDue = some d) ∧
          (v.rollDue = none ∨ v.rollDue.map RollDue.kind = some .hitless →
            w.rollDue = if (s.circ v.circuit).busy = true then none else some ⟨nextBoundary s.now, .idleRoll⟩))) ∧
    ((s.circ v.circuit).state ≠ .bridged → (s.circ v.circuit).state ≠ .aligned →
      (s.circ v.circuit).state ≠ .rollPending → t.circ v.circuit = s.circ v.circuit ∧ t.move? m = some v)
  let untouched (s t : State) (m : MoveId) (v : Move) : Prop :=
    t.circ v.circuit = s.circ v.circuit ∧ t.move? m = some v ∧
    ∀ i x, (s.align.corrs.get i).rec? = some x → x.circuit = v.circuit → (t.align.corrs.get i).rec? = some x
  let returned (s : State) (involved : CircuitId → Bool) : List QueueEntry :=
    (List.finRange 64).filterMap fun m => (s.move? m).bind fun v =>
      if involved v.circuit = true ∧ ((s.circ v.circuit).state = .aligned ∨ (s.circ v.circuit).state = .rollPending)
      then some ⟨v.circuit, true⟩ else none
  (∀ (s : State) (k : TrunkId) (f : Frame), MovesSound s →
    let t := copperSlip k f s
    t.align.copperMark.get k = f ∧ (∀ j, j ≠ k → t.align.copperMark.get j = s.align.copperMark.get j) ∧
    t.align.spanMark = s.align.spanMark ∧
    t.align.queue = s.align.queue ++ returned s (fun c => trunkOf c = k) ∧
    ∀ m v, s.move? m = some v →
      (trunkOf v.circuit = k → slipped s t f m v) ∧ (trunkOf v.circuit ≠ k → untouched s t m v)) ∧
  (∀ (s : State) (f : Frame), MovesSound s →
    let t := spanSlip f s
    t.align.spanMark = f ∧ t.align.copperMark = s.align.copperMark ∧
    t.align.queue = s.align.queue ++ returned s (fun _ => true) ∧ ∀ m v, s.move? m = some v → slipped s t f m v) ∧
  (∀ (s : State) (k : TrunkId), (s.line.get k).align = .aligned → (s.line.get k).store = [] →
    readPort (.line k) s =
      copperSlip k s.now (countPortSlip (.line k) (s.modPort (.line k) fun r => { r with delivered := r.lastRead }))) ∧
  (∀ s : State, s.span.align = .aligned → s.span.store = [] →
    ∃ t, readSpan s = spanSlip s.now t ∧ t.moves = s.moves ∧ t.circuits = s.circuits ∧ t.align = s.align) ∧
  ∀ s : State, s.dev.powered = true → s.mgmt.restart ≠ .due →
    let u := takeDue s
    ∃ t, exec .siteFrame s = .next t ∧ (∀ k, t.align.copperDeleted.get k = false) ∧ t.align.spanDeleted = false ∧
      (∀ k, t.align.copperMark.get k =
        if u.align.copperDeleted.get k = true ∨ (u.line.get k).align = .aligned ∧ (u.line.get k).store = []
        then t.timing.count else u.align.copperMark.get k) ∧
      t.align.spanMark =
        if u.align.spanDeleted = true ∨ u.span.align = .aligned ∧ u.span.store = [] then t.timing.count
        else u.align.spanMark

/-- ORDER_PROMOTION (R137, R138): the pass goes on to resolution, at most four orders are ACTIVE, every promotion is of a
PENDING order, and it goes on until four are ACTIVE or every PENDING order overlaps an ACTIVE one. ORDER_RESOLUTION (R139):
a circuit of the ring already at the target rest state is counted MOVED, one at the starting rest state without a span slot
FAILED with UNMAPPED.
Choice of the model: each pass is whole in one command (log 32). -/
def Obligations.OrderPromotionAndResolution : Prop :=
  (∀ s : State, s.dev.powered = true → s.orders.stage = .promotion → OrdersSound s →
    ∃ t, exec .orderPromotion s = .next t ∧ t = { s with orders := t.orders } ∧ t.orders.stage = .resolution ∧
      OrdersSound t ∧ t.orders.list.map Order.number = s.orders.list.map Order.number ∧
      (∀ o ∈ t.orders.list, o ∈ s.orders.list ∨ (o.state = .active ∧ o.closing = none ∧
        o.timer = (if o.deadline.isSome then .counting 0 else .stopped) ∧
        ∃ p ∈ s.orders.list, p.state = .pending ∧ o = { p with state := .active, closing := none, timer := o.timer })) ∧
      ((t.orders.list.countP fun o => o.state = .active) = 4 ∨
        ∀ o ∈ t.orders.list, o.state = .pending →
          ∃ a ∈ t.orders.list, a.state = .active ∧ ∃ x ∈ o.entries, ∃ y ∈ a.entries, x.circuit = y.circuit)) ∧
  ∀ (s : State) (o : Order) (e : OrderEntry), s.dev.powered = true → s.orders.stage = .resolution →
    s.orders.list = [o] → o.state = .active → o.closing = none → o.entries = [e] → e.state = .unstarted →
    (s.circ e.circuit).moveSlot = none → (s.circ e.circuit).blocked = false →
    ∃ t, exec .orderResolution s = .next t ∧ t.orders.stage = .grants ∧
      ((s.circ e.circuit).state = o.dir.targetRest →
        t.orders.list = [{ o with entries := [{ e with state := .moved }], state := .done, timer := .stopped }] ∧
        t.circuits = s.circuits ∧ t.pendingCause .orderEnd) ∧
      ((s.circ e.circuit).state = o.dir.startRest → (s.info e.circuit).slot = none →
        t.orders.list = [{ o with entries := [{ e with state := .failed }], state := .done, timer := .stopped }] ∧
        t.circ e.circuit = { s.circ e.circuit with lastFault := some .unmapped } ∧ t.pendingCause .moveFailed ∧
        t.pendingCause .orderEnd) ∧
      ((s.circ e.circuit).state = o.dir.startRest → (s.info e.circuit).slot ≠ none →
        t = { s with orders := { s.orders with stage := .grants } })

/-- ORDER_GRANT (R140 to R142): in a ring of one order with one admissible circuit, a free slot and the allowance not
reached, the circuit's move begins as a command would begin it, with the order's number, and its entry is IN_FLIGHT. At the
allowance, or with nothing admissible, the pass only ends.
DEADLINE_EXPIRY (R144, R143): admission stops; the order is EXPIRED at once when none of its circuits is in flight, and
leaves the ring with closing DEADLINE when some are. An order whose closing is present already is not changed, and an ACTIVE
order's timer counts on.
Choice of the model: each pass is whole in one command (log 32). -/
def Obligations.OrderGrantAndDeadline : Prop :=
  (∀ (s : State) (o : Order), s.dev.powered = true → s.orders.stage = .grants → s.orders.list = [o] →
    o.state = .active → o.closing = none → s.orders.turn = some o.number →
    (∀ (e : OrderEntry) (m : MoveId), o.entries = [e] → e.state = .unstarted → beginCheck s e.circuit o.dir = none →
      s.freeMove? = some m → s.slotsOfOrders < 56 →
      ∃ t, exec .orderGrant s = .next t ∧ t.orders.stage = .over ∧ t.orders.turn = some o.number ∧
        t.orders.list = [{ o with entries := [{ e with state := .inFlight }] }] ∧
        t.circuits = (beginMove m e.circuit o.dir (some o.number) s).circuits ∧
        t.moves = (beginMove m e.circuit o.dir (some o.number) s).moves ∧
        (t.circ e.circuit).moveSlot = some m ∧ (t.circ e.circuit).order = some o.number ∧
        ∃ v, t.move? m = some v ∧ v.circuit = e.circuit ∧ v.dir = o.dir ∧ v.order = some o.number ∧
          v.role = .initiator) ∧
    (56 ≤ s.slotsOfOrders ∨ (∀ e ∈ o.entries, e.state = .unstarted → beginCheck s e.circuit o.dir ≠ none) →
      exec .orderGrant s = .next { s with orders := { s.orders with stage := .over } })) ∧
  (∀ (s : State) (o : Order), s.dev.powered = true → s.orders.list = [o] → o.timer.isDue = true → o.closing ≠ none →
    exec (.deadlineExpiry o.number) s =
      .next { s with orders := { s.orders with list := [{ o with timer := .expired o.timer.count }] } }) ∧
  ∀ (s : State) (o : Order), s.dev.powered = true → s.orders.list = [o] → o.state = .active → o.closing = none →
    o.timer.isDue = true → o.settled = false →
    ∃ t, exec (.deadlineExpiry o.number) s = .next t ∧ t.circuits = s.circuits ∧ t.moves = s.moves ∧
      (o.countOf .inFlight = 0 →
        t.orders.list = [{ o with state := .expired, timer := .stopped }] ∧ t.pendingCause .orderEnd) ∧
      (o.countOf .inFlight ≠ 0 →
        t.orders.list = [{ o with closing := some .deadline, timer := .expired o.timer.count }]) ∧
      (s.orders.turn = some o.number → t.orders.turn = none)

/-- R138, R135: in a promotion a PENDING order older than one promoted overlaps an ACTIVE order, ACTIVE scopes that shared no
circuit still share none, and the oldest promotable order is promoted; it takes the turn while nobody has it (R141).
R139, R143: a resolution examines every UNSTARTED entry of every order of the ring: at the target rest state MOVED, at the
starting one without a span slot FAILED with UNMAPPED, else as it was; an order all of whose entries have ended is DONE.
R140, R141: in a ring of two with one admission left to the allowance, the order whose turn it is admits its lowest admissible
circuit, or, with none, the other order does; the turn goes on from the order that was offered last. An order that is closed
passes its turn on (R144, R145).
Choice of the model: each pass is whole in one command (log 32). -/
def Obligations.AdmissionOverManyOrders : Prop :=
  let overlap (a b : Order) : Prop := ∃ x ∈ a.entries, ∃ y ∈ b.entries, x.circuit = y.circuit
  let ring (o : Order) : Prop := o.state = .active ∧ o.closing = none
  (∀ s : State, s.dev.powered = true → s.orders.stage = .promotion → OrdersSound s →
    ∃ t, exec .orderPromotion s = .next t ∧
      ((∀ a ∈ s.orders.list, ∀ b ∈ s.orders.list, a.state = .active → b.state = .active → a ≠ b → ¬ overlap a b) →
        ∀ a ∈ t.orders.list, ∀ b ∈ t.orders.list, a.state = .active → b.state = .active → a ≠ b → ¬ overlap a b) ∧
      (∀ (before after : List Order) (o p : Order), t.orders.list = before ++ o :: after → o.state = .active →
        o ∉ s.orders.list → p ∈ before → p.state = .pending → ∃ a ∈ t.orders.list, a.state = .active ∧ overlap p a) ∧
      (∀ n, s.orders.turn = some n → t.orders.turn = some n) ∧
      ∀ (before after : List Order) (o : Order), s.orders.list = before ++ o :: after → o.state = .pending →
        (s.orders.list.countP fun a => a.state = .active) < 4 →
        (∀ a ∈ s.orders.list, a.state = .active → ¬ overlap o a) →
        (∀ p ∈ before, p.state = .pending → ∃ a ∈ s.orders.list, a.state = .active ∧ overlap p a) →
        (∃ o' ∈ t.orders.list, o'.number = o.number ∧ o'.state = .active ∧ o'.closing = none ∧ o'.entries = o.entries) ∧
        (s.orders.turn = none → t.orders.turn = some o.number)) ∧
  (∀ s : State, s.dev.powered = true → s.orders.stage = .resolution → OrdersSound s →
    (∀ o ∈ s.orders.list, (o.entries.map OrderEntry.circuit).Nodup) →
    let there (o : Order) (e : OrderEntry) : Prop := e.state = .unstarted ∧
      (s.circ e.circuit).state = o.dir.targetRest ∧ (s.circ e.circuit).moveSlot = none ∧ (s.circ e.circuit).blocked = false
    let lost (o : Order) (e : OrderEntry) : Prop := e.state = .unstarted ∧
      (s.circ e.circuit).state = o.dir.startRest ∧ (s.circ e.circuit).moveSlot = none ∧ (s.info e.circuit).slot = none
    ∃ t, exec .orderResolution s = .next t ∧ t.moves = s.moves ∧ t.link = s.link ∧
      t.orders.list.map Order.number = s.orders.list.map Order.number ∧
      (∀ o ∈ s.orders.list, ¬ ring o → o ∈ t.orders.list) ∧
      (∀ o ∈ s.orders.list, ring o → ∃ o' ∈ t.orders.list, o'.number = o.number ∧
        o'.entries.map OrderEntry.circuit = o.entries.map OrderEntry.circuit ∧
        (∀ e ∈ o.entries,
          (there o e → ⟨e.circuit, .moved⟩ ∈ o'.entries) ∧ (lost o e → ⟨e.circuit, .failed⟩ ∈ o'.entries) ∧
          (¬ there o e → ¬ lost o e → e ∈ o'.entries)) ∧
        ((∃ e ∈ o.entries, there o e ∨ lost o e) → (∀ e ∈ o'.entries, e.state = .moved ∨ e.state = .failed) →
          o' = { o with entries := o'.entries, state := .done, timer := .stopped }) ∧
        ((∃ e ∈ o'.entries, e.state = .unstarted ∨ e.state = .inFlight) → o' = { o with entries := o'.entries }) ∧
        ((∀ e ∈ o.entries, ¬ there o e ∧ ¬ lost o e) → o' = o)) ∧
      (∀ c, (∃ o ∈ s.orders.list, ring o ∧ ∃ e ∈ o.entries, e.circuit = c ∧ lost o e) →
        t.circ c = { s.circ c with lastFault := some .unmapped } ∧ t.pendingCause .moveFailed) ∧
      (∀ c, (∀ o ∈ s.orders.list, ring o → ∀ e ∈ o.entries, e.circuit = c → ¬ lost o e) → t.circ c = s.circ c)) ∧
  (∀ (s : State) (a b : Order) (m : MoveId), s.dev.powered = true → s.orders.stage = .grants →
    s.orders.list = [a, b] ∨ s.orders.list = [b, a] → a.number ≠ b.number → ring a → ring b →
    s.orders.turn = some a.number → s.slotsOfOrders = 55 → s.freeMove? = some m →
    let lowest (o : Order) (e : OrderEntry) : Prop := ∃ before after, o.entries = before ++ e :: after ∧
      e.state = .unstarted ∧ beginCheck s e.circuit o.dir = none ∧
      ∀ x ∈ before, x.state = .unstarted → beginCheck s x.circuit o.dir ≠ none
    let admits (o : Order) (e : OrderEntry) (next : Byte) : Prop :=
      ∃ t v, exec .orderGrant s = .next t ∧ t.orders.stage = .over ∧ t.orders.turn = some next ∧
        t.circuits = (beginMove m e.circuit o.dir (some o.number) s).circuits ∧ OnlyMoveOf s t e.circuit m ∧
        t.move? m = some v ∧ v.circuit = e.circuit ∧ v.dir = o.dir ∧ v.order = some o.number ∧
        t.orders.list = s.orders.list.map fun x => if x.number = o.number then
          { x with entries := x.entries.map fun y =>
            if y.circuit = e.circuit then { y with state := .inFlight } else y } else x
    (∀ e, lowest a e → admits a e b.number) ∧
    (∀ e, (∀ x ∈ a.entries, x.state = .unstarted → beginCheck s x.circuit a.dir ≠ none) → lowest b e →
      admits b e a.number) ∧
    ((∀ x ∈ a.entries, x.state = .unstarted → beginCheck s x.circuit a.dir ≠ none) →
      (∀ x ∈ b.entries, x.state = .unstarted → beginCheck s x.circuit b.dir ≠ none) →
      exec .orderGrant s = .next { s with orders := { s.orders with stage := .over } })) ∧
  ∀ (s : State) (a b : Order) (e : Entry) (tag : Byte), s.orders.list = [a, b] ∨ s.orders.list = [b, a] →
    a.number ≠ b.number → ring a → ring b → s.orders.turn = some a.number → a.countOf .inFlight ≠ 0 →
    a.settled = false →
    (s.dev.powered = true → a.timer.isDue = true →
      ∃ t, exec (.deadlineExpiry a.number) s = .next t ∧ t.orders.turn = some b.number) ∧
    (EntryReady s e → s.dev.devState ≠ .hold →
      ∃ t, exec (.cancelOrder e tag a.number) s = .next t ∧ t.orders.turn = some b.number)

/-! Management -/

/-- STATUS, READ_CIRCUITS_RANGE, READ_CIRCUITS_SLOT, READ_PARAMETERS and READ_ORDERS (R56, R57, R148, R172 to R174) change
nothing and answer from the state as it stands; operands out of range are refused with OUT_OF_RANGE.
READ_TRUNK and READ_COUNTERS (R23, R181) answer from the state as it stands; with clearing they set the slip counters of
both ports, or the counters of the group, to 0 after it, and change nothing else; a name out of range is refused.
Choices of the model: operands (log 12), the octets above 255 (log 13), the report from one order (log 24). -/
def Obligations.ReadRequestsAnswered : Prop :=
  ∀ (s : State) (e : Entry) (tag : Byte), EntryReady s e →
    (∀ part start items, statusItems s part = some items → start.toNat < items.length →
      exec (.status e tag part start) s = .next (s.answered e tag
        (let carried := fitItems (bodySize - 4) (items.drop start.toNat)
         let next := start.toNat + carried.length
         done codeStatus ([part, if next < items.length then nat8 next else 0xFF, nat8 carried.length] ++
           carried.flatten)))) ∧
    (∀ part start, statusItems s part = none ∨ (∃ items, statusItems s part = some items ∧ items.length ≤ start.toNat) →
      exec (.status e tag part start) s = .next (s.answered e tag (refusal codeStatus .outOfRange))) ∧
    (∀ trunk first last k, trunkArg trunk = some k → channelArg first = true → channelArg last = true →
      first.toNat ≤ last.toNat →
      exec (.readCircuitsRange e tag trunk first last) s =
        .next (s.answered e tag (circuitsReply s (rangeCircuits k first.toNat last.toNat)))) ∧
    (∀ trunk first last, trunkArg trunk = none ∨ channelArg first = false ∨ channelArg last = false ∨
        last.toNat < first.toNat →
      exec (.readCircuitsRange e tag trunk first last) s =
        .next (s.answered e tag (refusal codeReadCircuits .outOfRange))) ∧
    (∀ (sl : SlotId),
      exec (.readCircuitsSlot e tag (BitVec.ofNat 16 sl.val)) s =
        .next (s.answered e tag (match s.map.directory.get sl with
          | none => done codeReadCircuits [0, 0]
          | some c => done codeReadCircuits ([0, 1] ++ circuitRecord s c)))) ∧
    (∀ slot : Word16, 512 ≤ slot.toNat →
      exec (.readCircuitsSlot e tag slot) s = .next (s.answered e tag (refusal codeReadCircuits .outOfRange))) ∧
    exec (.readParameters e tag) s = .next (s.answered e tag (done codeReadParameters (parametersReport s))) ∧
    (∀ fl number, fl.msb = false →
      exec (.readOrders e tag fl number) s = .next (s.answered e tag (ordersReply s s.orders.list false))) ∧
    (∀ (fl number : Byte) (o : Order) (before after : List Order), fl.msb = true →
      s.orders.list = before ++ o :: after → o.number = number → (∀ x ∈ before, x.number ≠ number) →
      exec (.readOrders e tag fl number) s =
        .next (s.answered e tag (ordersReply s (o :: after) (fl.getLsbD 6)))) ∧
    (∀ (fl number : Byte), fl.msb = true → (∀ o ∈ s.orders.list, o.number ≠ number) →
      exec (.readOrders e tag fl number) s = .next (s.answered e tag (refusal codeReadOrders .outOfRange))) ∧
    (∀ trunk k, trunkArg trunk = some k →
      exec (.readTrunk e tag trunk 0) s = .next (s.answered e tag (done codeReadTrunk (trunkReport s k))) ∧
      exec (.readTrunk e tag trunk 1) s =
        .next ({ s with
          sw := s.sw.modify k fun r => { r with slips := 0 }
          line := s.line.modify k fun r => { r with slips := 0 } }.answered e tag
            (done codeReadTrunk (trunkReport s k)))) ∧
    (∀ trunk clearing, trunkArg trunk = none ∨ 1 < clearing.toNat →
      exec (.readTrunk e tag trunk clearing) s = .next (s.answered e tag (refusal codeReadTrunk .outOfRange))) ∧
    (∀ (group : Byte) (l : List Word16), counterGroup s group = some l →
      let reply := done codeReadCounters (group :: l.flatMap be16)
      exec (.readCounters e tag group 0) s = .next (s.answered e tag reply) ∧
      (group = 1 → exec (.readCounters e tag group 1) s =
        .next ({ s with
          span := { s.span with errored := 0, slips := 0 }
          link := { s.link with answersDropped := 0, inboundDrops := 0, stale := 0 }
          mgmt := { s.mgmt with slotDiscards := 0, spanDiscards := 0 } }.answered e tag reply)) ∧
      (group = 2 → exec (.readCounters e tag group 1) s =
        .next (State.answered { s with sw := s.sw.map fun r => { r with slips := 0 } } e tag reply)) ∧
      (group = 3 → exec (.readCounters e tag group 1) s =
        .next (State.answered { s with line := s.line.map fun r => { r with slips := 0 } } e tag reply))) ∧
    ∀ group clearing : Byte, group = 0 ∨ 3 < group.toNat ∨ 1 < clearing.toNat →
      exec (.readCounters e tag group clearing) s =
        .next (s.answered e tag (refusal codeReadCounters .outOfRange))

/-- 10.4 and 10.7, octet by octet, with R23, R42, R56, R132, R148, R167, R173, R174, R179: what the circuit record, the order
record with its entries, the bodies of READ-CIRCUITS and READ-ORDERS, the trunk report, the parameter report and the items of
each part of STATUS hold of the state.
Choices of the model: a number that its field cannot hold is reported by a free value, of which nothing is stated (log 13);
the response to SET-TRUNK reports the function last set, which may be still to come (log 16); a response with the circuit list
names no further order (log 24). -/
def Obligations.ReportsLaidOut : Prop :=
  let w16 (l : List Byte) (i : Nat) : Word16 := word16 (octetAt l i) (octetAt l (i + 1))
  let w32 (l : List Byte) (i : Nat) : BitVec 32 := w16 l i ++ w16 l (i + 2)
  let bits (b : Byte) (lo n : Nat) : Nat := (b.extractLsb' lo n).toNat
  let oct (n : Nat) : Byte := BitVec.ofNat 8 n
  let yes (b : Bool) : Byte := if b = true then 1 else 0
  let lag16 (x : Option Int) : Word16 := x.elim 0x8000 (BitVec.ofInt 16)
  let functions : List TrunkFunction := [.trunk, .monitor, .spanOnly]
  let insertions : List Insertion := [.bypassed, .acquiring, .inserted]
  let aligns : List AlignState := [.search, .confirm, .aligned]
  let devStates : List DevState := [.starting, .running, .hold]
  let ends : List (Option EndId) := [none, some .a, some .b]
  let holds (l : List Byte) (i : Nat) (t : TrunkCodes) : Prop :=
    upperCode (octetAt l i) = t.idleOut ∧ lowerCode (octetAt l i) = t.idleIn ∧
    upperCode (octetAt l (i + 1)) = t.blocking ∧ lowerCode (octetAt l (i + 1)) = t.conditioning ∧
    octetAt l (i + 2) = t.vacant
  (∀ (s : State) (c : CircuitId),
    let l := circuitRecord s c
    let o (i : Nat) := octetAt l i
    let r := s.circ c
    let i := s.info c
    l.length = 24 ∧ o 0 = oct (trunkOf c).val ∧ o 1 = oct (channelOf c) ∧
    w16 l 2 = i.slot.elim 0xFFFF (fun x => BitVec.ofNat 16 x.val) ∧
    [MoveState.home, .blocking, .swapping, .bridging, .bridged, .aligned, .rollPending, .rolled, .abandoning,
      .moved][(o 4).toNat]? = some r.state ∧
    [Policy.auto, .atClear, .force][bits (o 5) 6 2]? = some i.policy ∧
    [none, some Dir.toSpan, some .toCopper][bits (o 5) 4 2]? = some r.dir ∧
    (o 5).getLsbD 3 = i.rollOnCommand ∧ (o 5).getLsbD 2 = i.pin ∧ (o 5).getLsbD 1 = i.mgmt ∧
    ((o 5).getLsbD 0 = true ↔ r.sel = .span) ∧
    (o 6).getLsbD 7 = r.cuTx ∧ (o 6).getLsbD 6 = r.spTx ∧ (o 6).getLsbD 5 = r.blocked ∧ (o 6).getLsbD 4 = r.busy ∧
    (o 6).getLsbD 3 = r.conditioned ∧ bits (o 6) 0 3 = 0 ∧
    (o 7).getLsbD 7 = r.order.isSome ∧ (o 7).getLsbD 6 = r.lastFault.isSome ∧ (o 7).getLsbD 5 = r.lastResult.isSome ∧
    bits (o 7) 0 4 = 0 ∧ o 8 = r.cuDepth ∧ o 9 = r.spDepth ∧ o 10 = r.moveSlot.elim 0xFF (fun m => oct m.val) ∧
    o 11 = r.order.getD 0 ∧ (r.lastFault = none → o 12 = 0) ∧
    (∀ f, r.lastFault = some f →
      [FaultCode.seized, .peerTimeout, .peerStall, .alignTimeout, .noMatch, .rollWaitTimeout, .manual, .abandonedByPeer,
        .spanLost, .spanFallback, .swapUnresolved, .copperLost, .unmapped, .busyCall, .crossed, .direction,
        .sequence][(o 12).toNat - 1]? = some f ∧ o 12 ≠ 0) ∧
    (r.lastResult = none → o 13 = 0 ∧ w16 l 14 = 0 ∧ o 16 = 0) ∧
    (∀ x, r.lastResult = some x →
      [ResultKind.cold, .force, .hitless, .idleRoll, .rescue][(o 13).toNat - 1]? = some x.kind ∧ o 13 ≠ 0 ∧
      w16 l 14 = lag16 x.lag ∧ o 16 = oct x.replay) ∧
    (∀ m v x, r.moveSlot = some m → s.move? m = some v → v.result = some x →
      r.state = .aligned ∨ r.state = .rollPending →
      (o 7).getLsbD 4 = true ∧ w16 l 17 = BitVec.ofInt 16 x.lag ∧ o 19 = x.depth ∧ o 20 = oct x.replay) ∧
    (r.moveSlot = none ∨ (r.state ≠ .aligned ∧ r.state ≠ .rollPending) →
      (o 7).getLsbD 4 = false ∧ w16 l 17 = 0 ∧ o 19 = 0 ∧ o 20 = 0) ∧
    o 21 = 0 ∧ o 22 = 0 ∧ o 23 = 0) ∧
  (∀ (s : State) (k : TrunkId) (first last : Nat) (cs : List CircuitId),
    (rangeCircuits k first last).Pairwise (· < ·) ∧
    (∀ c, c ∈ rangeCircuits k first last ↔ trunkOf c = k ∧ first ≤ channelOf c ∧ channelOf c ≤ last) ∧
    circuitsReply s cs = {
      status := 0x01
      body := [0x02, (cs[2]?).elim 0 fun c => oct (channelOf c), oct (min 2 cs.length)] ++
        (cs.take 2).flatMap (circuitRecord s) }) ∧
  (∀ o : Order,
    let l := orderRecord o
    let b (i : Nat) := octetAt l i
    let count (st : EntryState) : Byte := oct (o.entries.countP fun e => e.state = st)
    l.length = 16 ∧ b 0 = o.number ∧ b 1 = oct o.trunk.val ∧ b 2 = oct o.first ∧ b 3 = oct o.last ∧
    ((b 4).getLsbD 7 = true ↔ o.dir = .toCopper) ∧
    [OrderState.pending, .active, .done, .cancelled, .expired][bits (b 4) 4 3]? = some o.state ∧
    [none, some Closing.cancel, some .deadline][bits (b 4) 2 2]? = some o.closing ∧ bits (b 4) 0 2 = 0 ∧
    w16 l 5 = o.deadline.getD 0 ∧
    (o.timer.count / 8000 < 65536 → w16 l 7 = BitVec.ofNat 16 (o.timer.count / 8000)) ∧
    b 9 = oct o.entries.length ∧ b 10 = count .moved ∧ b 11 = count .failed ∧ b 12 = count .inFlight ∧
    b 13 = 0 ∧ b 14 = 0 ∧ b 15 = 0 ∧
    (entryOctets o).length = 8 ∧
    ∀ i, i < 32 →
      (∀ e, o.entries[i]? = some e →
        [EntryState.unstarted, .inFlight, .moved, .failed][bits (octetAt (entryOctets o) (i / 4)) (6 - 2 * (i % 4)) 2]? =
          some e.state) ∧
      (o.entries.length ≤ i → bits (octetAt (entryOctets o) (i / 4)) (6 - 2 * (i % 4)) 2 = 0)) ∧
  (∀ (s : State) (os : List Order) (withList : Bool),
    let reply := ordersReply s os withList
    let o (i : Nat) := octetAt reply.body i
    let carried := os.take (if withList = true then 1 else 3)
    let next : Option Order := if withList = true then none else os[3]?
    reply.status = 0x01 ∧ o 0 = 0x0D ∧ (o 1).getLsbD 7 = next.isSome ∧ (o 1).getLsbD 6 = s.orders.turn.isSome ∧
    bits (o 1) 0 6 = 0 ∧ o 2 = next.elim 0 Order.number ∧ o 3 = s.orders.turn.getD 0 ∧
    o 4 = oct ((List.finRange 64).countP fun m => (s.move? m).any fun v => v.order.isSome) ∧ o 5 = oct carried.length ∧
    reply.body.drop 6 = carried.flatMap orderRecord ++ (if withList = true then carried.flatMap entryOctets else [])) ∧
  (∀ (s : State) (k : TrunkId),
    let l := trunkReport s k
    let o (i : Nat) := octetAt l i
    let t := s.trunk k
    let port (i : Nat) (r : PortRx) : Prop :=
      aligns[(o i).toNat]? = some r.align ∧ (o (i + 1) = 0 ↔ r.mf = .search) ∧
      (o (i + 1) = 1 ↔ ∃ seen, r.mf = .confirm seen) ∧ (o (i + 1) = 2 ↔ r.mf.isAligned = true) ∧
      (o (i + 2)).getLsbD 7 = r.los ∧ ((o (i + 2)).getLsbD 6 = true ↔ r.align ≠ .aligned) ∧
      (o (i + 2)).getLsbD 5 = r.ais ∧ (o (i + 2)).getLsbD 4 = r.available ∧ (o (i + 2)).getLsbD 3 = r.far ∧
      bits (o (i + 2)) 0 3 = 0 ∧ w16 l (i + 3) = r.slips
    l.length = 19 ∧ o 0 = oct k.val ∧ functions[(o 1).toNat]? = some t.function ∧
    insertions[(o 2).toNat]? = some t.insertion ∧
    w16 l 3 = (if t.insertion = .acquiring then BitVec.ofNat 16 t.settle else 0xFFFF) ∧ o 5 = yes t.bypass ∧
    port 6 (s.sw.get k) ∧ port 11 (s.line.get k) ∧ holds l 16 t.codes ∧
    (trunkBrief s k).length = 6 ∧ octetAt (trunkBrief s k) 0 = oct k.val ∧
    functions[(octetAt (trunkBrief s k) 1).toNat]? = some (t.coming.getD t.function) ∧
    insertions[(octetAt (trunkBrief s k) 2).toNat]? = some t.insertion ∧ holds (trunkBrief s k) 3 t.codes) ∧
  (List.range 20).map (fun j => paramOf (oct (j + 1))) =
    [some .refPort, some .degrade, some .persistence, some .freeze, some .restore, some .peerProgress, some .quietWait,
      some .validity, some .soak, some .window, some .distinct, some .slew, some .alignTimeout, some .repeatMs,
      some .tries, some .preset, some .onMark, some .offMark, some .proxyMode, some .proxyTimeout] ∧
  (∀ s : State, (parametersReport s).length = 40 ∧
    ∀ (id : Byte) (i : ParamId), paramOf id = some i →
      w16 (parametersReport s) (2 * (id.toNat - 1)) = BitVec.ofNat 16 (s.params.read s.timing.refPort i)) ∧
  (∀ s : State, ∃ l, statusItems s 1 = some [l] ∧ l.length = 17 ∧
    let o (i : Nat) := octetAt l i
    devStates[(o 0).toNat]? = some s.dev.devState ∧ ends[(o 1).toNat]? = some (strapEnd s.dev.straps) ∧
    w32 l 2 = s.timing.count ∧ o 6 = oct s.timing.refPort.val ∧ o 7 = yes s.timing.holdover ∧
    o 8 = (if strapMgmtTrunk s.dev.straps = none then 0xFF else yes s.mgmt.slotRx.locked) ∧
    (s.mgmt.proxy = none → l.drop 9 = List.replicate 8 0) ∧
    ∀ p, s.mgmt.proxy = some p →
      o 9 = 1 ∧ o 10 = p.stationTag ∧ o 11 = p.proxyTag ∧ [ProxyMode.wait, .post][(o 12).toNat]? = some p.mode ∧
      w32 l 13 = BitVec.ofNat 32 p.timer.count) ∧
  (∀ s : State, ∃ l, statusItems s 2 = some [l] ∧ l.length = 11 ∧
    let o (i : Nat) := octetAt l i
    let r := s.span
    aligns[(o 0).toNat]? = some r.align ∧ (o 1).getLsbD 7 = r.los ∧ ((o 1).getLsbD 6 = true ↔ r.align ≠ .aligned) ∧
    (o 1).getLsbD 5 = r.degrade ∧ (o 1).getLsbD 4 = r.present ∧ (o 1).getLsbD 3 = r.conflict ∧
    (o 1).getLsbD 2 = r.usable ∧ (o 1).getLsbD 1 = r.rxNumber.isSome ∧ (o 1).getLsbD 0 = false ∧
    w16 l 2 = BitVec.ofNat 16 r.errCount ∧ (r.streak < 256 → o 4 = oct r.streak) ∧
    (r.peerState = none → o 5 = 0xFF) ∧ (∀ x, r.peerState = some x → devStates[(o 5).toNat]? = some x) ∧
    (r.peerEnd = none → o 6 = 0xFF) ∧ (∀ x, r.peerEnd = some x → ends[(o 6).toNat]? = some x) ∧
    (o 7).getLsbD 7 = r.peerHoldOff ∧ (o 7).getLsbD 6 = r.peerFarFault ∧ bits (o 7) 0 6 = 0 ∧
    w16 l 8 = r.rxNumber.getD 0 ∧ o 10 = oct r.store.length) ∧
  (∀ s : State, ∃ items, statusItems s 3 = some items ∧ items.length = 25 + s.align.queue.length ∧
    let item (j : Nat) : List Byte := items.getD j []
    (item 0).length = 4 ∧ w32 (item 0) 0 = s.align.spanMark ∧
    (∀ k : TrunkId, (item (1 + k.val)).length = 4 ∧ w32 (item (1 + k.val)) 0 = s.align.copperMark.get k) ∧
    (∀ i : CorrId,
      let l := item (17 + i.val)
      let o (j : Nat) := octetAt l j
      l.length = 15 ∧ ((s.align.corrs.get i).rec? = none → l = List.replicate 15 0) ∧
      ∀ x, (s.align.corrs.get i).rec? = some x →
        o 0 = 1 ∧ o 1 = oct (trunkOf x.circuit).val ∧ o 2 = oct (channelOf x.circuit) ∧ w32 l 3 = x.e0 ∧
        (x.next < 256 → o 7 = oct x.next) ∧ w16 l 8 = lag16 x.cand ∧ o 10 = oct x.noneStreak ∧
        w32 l 11 = BitVec.ofNat 32 x.timeout.count) ∧
    ∀ (j : Nat) (e : QueueEntry), s.align.queue[j]? = some e →
      item (25 + j) = [oct (trunkOf e.circuit).val, oct (channelOf e.circuit)]) ∧
  (∀ s : State, ∃ (head : List Byte) (rest : List (List Byte)) (held : List MoveId),
    statusItems s 4 = some (head :: rest) ∧
    (let marks : Nat × Nat := match s.params.preset with
      | 0 => (48, 16)
      | 1 => (56, 40)
      | 2 => (32, 8)
      | _ => (s.params.onMark, s.params.offMark)
    head = [oct s.link.outQ.length, oct s.link.inQ.length, octetAt head 2, oct s.params.preset, oct marks.1,
      oct marks.2]) ∧
    (octetAt head 2).getLsbD 7 = s.link.holdOff ∧ (octetAt head 2).getLsbD 6 = s.span.peerHoldOff ∧
    bits (octetAt head 2) 0 6 = 0 ∧
    held.Pairwise (· < ·) ∧ (∀ m, m ∈ held ↔ (s.move? m).isSome = true) ∧ rest.length = held.length ∧
    ∀ (j : Nat) (m : MoveId) (v : Move), held[j]? = some m → s.move? m = some v →
      (v.request = none → rest[j]? = some [oct m.val, 0, 0]) ∧
      ∀ q, v.request = some q → ∃ kind : Byte, rest[j]? = some [oct m.val, kind, oct q.tries] ∧ kind ≠ 0 ∧
        [ReqKind.block, .swap, .bridge, .rolled, .release, .abandon][kind.toNat - 1]? = some q.kind) ∧
  (∀ s : State, ∃ l, statusItems s 5 = some [l] ∧ l.length = 6 ∧
    let hot := s.mgmt.causes &&& s.mgmt.enables
    w16 l 0 = s.mgmt.causes ++ (0 : BitVec 4) ∧ w16 l 2 = s.mgmt.enables ++ (0 : BitVec 4) ∧
    octetAt l 4 = yes s.mgmt.attention ∧ (hot = 0 → octetAt l 5 = 0) ∧
    (hot ≠ 0 → 1 ≤ (octetAt l 5).toNat ∧ hot.getMsbD ((octetAt l 5).toNat - 1) = true ∧
      ∀ j, j + 1 < (octetAt l 5).toNat → hot.getMsbD j = false)) ∧
  [Cause.spanDown, .peerLost, .endConflict, .fallback, .portAlarm, .moveFailed, .slip, .noticeLoss, .orderEnd, .proxyDone,
    .spanUp, .inserted].map Cause.bit =
    [0x800, 0x400, 0x200, 0x100, 0x080, 0x040, 0x020, 0x010, 0x008, 0x004, 0x002, 0x001]

/-- The first check of the requests (R15, R17, R19, R52, R74, R80, R104, R107, R136): operands that name no circuit, trunk,
slot, policy, yes or no, function, form, command or direction are refused with OUT_OF_RANGE, and a command other than MOVE and
RETURN on the management channel with MGMT_CHANNEL. -/
def Obligations.OutOfRangeRefused : Prop :=
  let noChannel (b : Byte) : Prop := b.toNat = 0 ∨ b.toNat = 16 ∨ 31 < b.toNat
  (∀ (s : State) (e : Entry) (tag : Byte), EntryReady s e →
    let refused (code : Byte) (r : Reason) : Host.Outcome State Fault Refusal := .next (s.answered e tag (refusal code r))
    (∀ (trunk channel : Byte) (slot : Word16) (policy roc pin : Byte),
      15 < trunk.toNat ∨ noChannel channel ∨ (512 ≤ slot.toNat ∧ slot ≠ 0xFFFF) ∨ 2 < policy.toNat ∨ 1 < roc.toNat ∨
        1 < pin.toNat →
      exec (.setCircuit e tag trunk channel slot policy roc pin) s = refused codeSetCircuit .outOfRange) ∧
    (∀ trunk channel : Byte, 15 < trunk.toNat ∨ noChannel channel →
      ∀ cmd ∈ [Instr.move e tag trunk channel, .ret e tag trunk channel, .roll e tag trunk channel,
          .release e tag trunk channel, .abandon e tag trunk channel, .pin e tag trunk channel, .unpin e tag trunk channel,
          .unblock e tag trunk channel],
        exec cmd s = refused codeCommand .outOfRange) ∧
    (∀ (trunk channel : Byte) (c : CircuitId), trunk.toNat = (trunkOf c).val → channel.toNat = channelOf c →
      (s.info c).mgmt = true →
      ∀ cmd ∈ [Instr.roll e tag trunk channel, .release e tag trunk channel, .abandon e tag trunk channel,
          .pin e tag trunk channel, .unpin e tag trunk channel, .unblock e tag trunk channel],
        exec cmd s = refused codeCommand .mgmtChannel) ∧
    (∀ trunk function : Byte, 15 < trunk.toNat ∨ 2 < function.toNat →
      exec (.setTrunkFunction e tag trunk function) s = refused codeSetTrunk .outOfRange) ∧
    (∀ trunk named idle blocking vacant : Byte, 15 < trunk.toNat →
      exec (.setTrunkCodes e tag trunk named idle blocking vacant) s = refused codeSetTrunk .outOfRange) ∧
    (∀ trunk : Byte, 15 < trunk.toNat →
      exec (.insert e tag trunk) s = refused codeSetTrunk .outOfRange ∧
      exec (.withdraw e tag trunk) s = refused codeSetTrunk .outOfRange) ∧
    ∀ (trunk first last direction : Byte) (deadline : Word16),
      15 < trunk.toNat ∨ noChannel first ∨ noChannel last ∨ last.toNat < first.toNat ∨ 1 < direction.toNat →
      exec (.postOrder e tag trunk first last direction deadline) s = refused codePostOrder .outOfRange) ∧
  ∀ (s : State) (octets : List Byte) (rest : List SpanReady) (tag : Byte) (body : List Byte),
    EntryReady s .span → s.mgmt.spanReady = ⟨octets, false⟩ :: rest →
    octets = encodeCell { kind := kindRequest, tag := tag, target := targetLocal, status := 0, body := body } →
    let taken : State := { s with mgmt := { s.mgmt with spanReady := rest } }
    (∀ trunk channel command : Byte, body = [codeCommand, trunk, channel, command] →
      command.toNat = 0 ∨ 8 < command.toNat →
      exec .spanCellTaken s = .next (taken.answered .span tag (refusal codeCommand .outOfRange))) ∧
    (∀ trunk form a b c d : Byte, body = [codeSetTrunk, trunk, form, a, b, c, d] → form.toNat = 0 ∨ 4 < form.toNat →
      exec .spanCellTaken s = .next (taken.answered .span tag (refusal codeSetTrunk .outOfRange))) ∧
    (∀ form a b c : Byte, body = [codeReadCircuits, form, a, b, c] → 1 < form.toNat →
      exec .spanCellTaken s = .next (taken.answered .span tag (refusal codeReadCircuits .outOfRange)))

/-- SET_CIRCUIT (R46, R47, R52): the checks in their order, each refusing with nothing changed; then the record and the slot
directory are written together, and a changed slot restarts the span backward record. -/
def Obligations.SetCircuitWritesRecord : Prop :=
  ∀ (s : State) (e : Entry) (tag trunk channel : Byte) (slot : Word16) (policy roc pin : Byte) (c : CircuitId)
    (sl : Option SlotId) (p : Policy) (r n : Bool),
    EntryReady s e → MapSound s →
    circuitArg trunk channel = some c → slotOperand slot = some sl → policyArg policy = some p → boolArg roc = some r →
    boolArg pin = some n →
    let cmd : Instr := .setCircuit e tag trunk channel slot policy roc pin
    let atHome := (s.circ c).state = .home ∧ (s.circ c).moveSlot = none
    let free := ∀ x y, sl = some x → s.map.directory.get x = some y → y = c
    ((s.info c).mgmt = true → exec cmd s = .next (s.answered e tag (refusal codeSetCircuit .mgmtChannel))) ∧
    ((s.info c).mgmt = false → ¬ atHome →
      exec cmd s = .next (s.answered e tag (refusal codeSetCircuit .wrongState))) ∧
    ((s.info c).mgmt = false → atHome → ¬ free →
      exec cmd s = .next (s.answered e tag (refusal codeSetCircuit .slotInUse))) ∧
    ((s.info c).mgmt = false → atHome → free →
      ∃ t, exec cmd s = .next t ∧ t.surroundings = s.surroundings ∧ t.moves = s.moves ∧
        t.info c = { slot := sl, policy := p, rollOnCommand := r, pin := n, mgmt := false } ∧
        (∀ c', c' ≠ c → t.info c' = s.info c' ∧ t.circ c' = s.circ c') ∧
        (∀ x, t.map.directory.get x =
          if sl = some x then some c else if (s.info c).slot = some x then none else s.map.directory.get x) ∧
        ((s.info c).slot ≠ sl →
          (t.circ c).spBack = { code := 0b1001, cand := none, count := 0 } ∧ (t.circ c).spLast = none) ∧
        ((s.info c).slot = sl → t.circ c = s.circ c) ∧
        Answered t e tag (done codeSetCircuit (circuitRecord t c)))

/-- FILL_BLOCK (R54, R55): refused with OUT_OF_RANGE for an operand out of range, and refused whole unless every circuit of the trunk but the management channel is in HOME without a
move slot and without a span slot, and every target is free; then each gets the target of its position, every circuit of the trunk, the
management channel too, the policy, and the response lists the unassigned slots in the order of their positions. -/
def Obligations.FillBlockMapsTrunk : Prop :=
  (∀ (s : State) (e : Entry) (tag trunk block ordering key policy : Byte), EntryReady s e →
    (15 < trunk.toNat ∨ 15 < block.toNat ∨ 1 < ordering.toNat ∨ 31 < key.toNat ∨ 2 < policy.toNat →
      exec (.fillBlock e tag trunk block ordering key policy) s =
        .next (s.answered e tag (refusal codeFillBlock .outOfRange))) ∧
    (trunk.toNat < 16 → block.toNat < 16 → ordering.toNat < 2 → key.toNat < 32 → policy.toNat < 3 →
      ∃ k b o ky p, fillOperands trunk block ordering key policy = some (k, b, o, ky, p) ∧ k.val = trunk.toNat ∧
        b.val = block.toNat ∧ (o = true ↔ ordering = 1) ∧ ky.val = key.toNat ∧
        (p = .auto ↔ policy = 0) ∧ (p = .atClear ↔ policy = 1) ∧ (p = .force ↔ policy = 2))) ∧
  ∀ (s : State) (e : Entry) (tag trunk block ordering key policy : Byte) (k : TrunkId) (b : Fin 16) (o : Bool)
    (ky : Fin 32) (p : Policy),
    EntryReady s e → MapSound s → fillOperands trunk block ordering key policy = some (k, b, o, ky, p) →
    let cmd : Instr := .fillBlock e tag trunk block ordering key policy
    let filled (c : CircuitId) : Prop := trunkOf c = k ∧ (s.info c).mgmt = false
    let target (c : CircuitId) : SlotId := fillTarget b o ky (channelOf c)
    let ready := ∀ c, filled c → (s.circ c).state = .home ∧ (s.circ c).moveSlot = none ∧ (s.info c).slot = none
    let free := ∀ c, filled c → s.map.directory.get (target c) = none
    (¬ ready → exec cmd s = .next (s.answered e tag (refusal codeFillBlock .wrongState))) ∧
    (ready → ¬ free → exec cmd s = .next (s.answered e tag (refusal codeFillBlock .slotInUse))) ∧
    (ready → free →
      ∃ t, exec cmd s = .next t ∧ t.surroundings = s.surroundings ∧ t.moves = s.moves ∧
        (∀ c, filled c →
          (target c).val = 32 * b.val + (if o then channelOf c ^^^ ky.val else (channelOf c + ky.val) % 32) ∧
          t.info c = { s.info c with slot := some (target c), policy := p } ∧
          t.map.directory.get (target c) = some c ∧
          (t.circ c).spBack = { code := 0b1001, cand := none, count := 0 } ∧ (t.circ c).spLast = none) ∧
        (∀ c, trunkOf c = k → (s.info c).mgmt = true →
          t.info c = { s.info c with policy := p } ∧ t.circ c = s.circ c) ∧
        (∀ c, trunkOf c ≠ k → t.info c = s.info c ∧ t.circ c = s.circ c) ∧
        (∀ x, (∀ c, filled c → target c ≠ x) → t.map.directory.get x = s.map.directory.get x) ∧
        ∃ positions : List Nat, positions.Pairwise (· < ·) ∧ positions.length ≤ 3 ∧
          (∀ q, q ∈ positions ↔ q < 32 ∧ ∀ c, filled c → channelOf c ≠ q) ∧
          Answered t e tag (done codeFillBlock (nat8 positions.length ::
            ((positions.flatMap fun q => nat16 (fillTarget b o ky q).val) ++ List.replicate 6 0).take 6)))

/-- MOVE and RETURN (R80 to R82, R88, R89): refused with the reason of the first check of R80 that fails, in its order; then the circuit takes the lowest free
slot as INITIATOR with the counter's tag, and begins COLD, FORCE or HITLESS by its policy and call state. -/
def Obligations.MoveAndReturnBegin : Prop :=
  ∀ (s : State) (e : Entry) (tag trunk channel : Byte) (c : CircuitId) (d : Dir),
    EntryReady s e → circuitArg trunk channel = some c →
    let r := s.circ c
    let i := s.info c
    let why : Option Reason :=
      if i.mgmt = true then some .mgmtChannel
      else if s.dev.devState = .hold then some .held
      else if r.state ≠ d.startRest ∨ r.blocked = true then some .wrongState
      else if i.slot = none then some .unmapped
      else if (s.trunk (trunkOf c)).insertion ≠ .inserted ∨ (d = .toCopper ∧ s.copperAvail (trunkOf c) = false) then
        some .trunkDown
      else if s.span.usable = false then some .spanDown
      else if i.policy = .atClear ∧ r.busy = true then some .busyCall
      else none
    beginCheck s c d = why ∧
    (∀ why, beginCheck s c d = some why →
      exec (beginRow d e tag trunk channel) s = .next (s.answered e tag (refusal codeCommand why))) ∧
    (beginCheck s c d = none → s.freeMove? = none →
      exec (beginRow d e tag trunk channel) s = .next (s.answered e tag (refusal codeCommand .noSlot))) ∧
    ∀ m sl, beginCheck s c d = none → s.freeMove? = some m → i.slot = some sl → s.link.outQ.length < outboundSize →
      ∃ t v, exec (beginRow d e tag trunk channel) s = .next t ∧ OnlyMoveOf s t c m ∧ t.surroundings = s.surroundings ∧
        t.map = s.map ∧ Answered t e tag (done codeCommand (circuitRecord t c)) ∧
        t.move? m = some v ∧ v.circuit = c ∧ v.role = .initiator ∧ v.dir = d ∧ v.tag = s.moves.tagCounter ∧
        v.peerTag = none ∧ v.order = none ∧ v.rollDue = none ∧ t.moves.tagCounter = s.moves.tagCounter + 1 ∧
        (t.circ c).moveSlot = some m ∧ (t.circ c).dir = some d ∧
        (i.policy = .atClear ∨ (i.policy = .auto ∧ r.busy = false) →
          v.kind = .cold ∧ v.request = some (freshRequest s .block false) ∧
          t.circ c = { r with state := .blocking, blocked := true, moveSlot := some m, dir := some d, order := none } ∧
          t.link.outQ = withoutOwned m s.link.outQ ++ [sending m v .block false sl]) ∧
        (i.policy = .auto ∧ r.busy = true →
          v.kind = .hitless ∧ v.request = some (freshRequest s .bridge false) ∧
          t.circ c = ({ r with state := .bridging, moveSlot := some m, dir := some d, order := none } : Circuit).setTx
            d.newPath true ∧
          t.link.outQ = withoutOwned m s.link.outQ ++ [sending m v .bridge false sl]) ∧
        (i.policy = .force →
          v.kind = .force ∧ v.request = some (freshRequest s .swap true) ∧ (t.circ c).state = .swapping ∧
          (t.circ c).sel = d.newPath ∧ (t.circ c).depth d.newPath = 0 ∧
          ((t.circ c).cuTx = true ↔ d.newPath = .copper) ∧ ((t.circ c).spTx = true ↔ d.newPath = .span) ∧
          (t.circ c).blocked = r.blocked ∧
          t.link.outQ = withoutOwned m s.link.outQ ++ [sending m v .swap true sl])

/-- ROLL, RELEASE, ABANDON, PIN, UNPIN and UNBLOCK (R91, R95, R96, R98, R104, R107 to R110), each in the states in which it
acts; refused with WRONG_STATE at the circuits it does not fit.
Choice of the model: the EVENT cell of the rise that an ABANDON's MOVE_FAILED may bring about goes ahead of the response on the
slot entry, which is so the last cell (log 42). -/
def Obligations.CircuitCommandsServed : Prop :=
  ∀ (s : State) (e : Entry) (tag trunk channel : Byte) (c : CircuitId),
    EntryReady s e → circuitArg trunk channel = some c → (s.info c).mgmt = false →
    let r := s.circ c
    let unchanged : Reply := done codeCommand (circuitRecord s c)
    let wrongState : Reply := refusal codeCommand .wrongState
    let answers (t : State) : Prop := Answered t e tag (done codeCommand (circuitRecord t c))
    (s.dev.devState = .hold →
      ∀ cmd ∈ [Instr.roll e tag trunk channel, .release e tag trunk channel, .abandon e tag trunk channel,
          .unblock e tag trunk channel],
        exec cmd s = .next (s.answered e tag (refusal codeCommand .held))) ∧
    (∃ t, exec (.pin e tag trunk channel) s = .next t ∧ answers t ∧ t.info c = { s.info c with pin := true } ∧
      (∀ c', c' ≠ c → t.info c' = s.info c') ∧ t.map.directory = s.map.directory ∧ t.circuits = s.circuits ∧
      t.moves = s.moves ∧ t.link = s.link) ∧
    ((∀ m v, r.moveSlot = some m → s.move? m = some v → ¬ (r.state = .rolled ∧ v.soak.isExpired = true)) →
      ∃ t, exec (.unpin e tag trunk channel) s = .next t ∧ answers t ∧ t.info c = { s.info c with pin := false } ∧
        (∀ c', c' ≠ c → t.info c' = s.info c') ∧ t.map.directory = s.map.directory ∧ t.circuits = s.circuits ∧
        t.moves = s.moves ∧ t.link = s.link) ∧
    (s.dev.devState ≠ .hold →
      (r.moveSlot = none → r.state.atRest = true → r.blocked = true →
        ∃ t, exec (.unblock e tag trunk channel) s = .next t ∧ answers t ∧ t.circ c = { r with blocked := false } ∧
          (∀ c', c' ≠ c → t.circ c' = s.circ c') ∧ t.moves = s.moves ∧ t.link = s.link) ∧
      (r.moveSlot ≠ none ∨ r.blocked = false →
        exec (.unblock e tag trunk channel) s = .next (s.answered e tag wrongState)) ∧
      (r.moveSlot = none →
        ∀ cmd ∈ [Instr.roll e tag trunk channel, .release e tag trunk channel, .abandon e tag trunk channel],
          exec cmd s = .next (s.answered e tag wrongState)) ∧
      ∀ m v sl, InFlightWith s m v sl → v.circuit = c → r.moveSlot = some m →
        (r.state = .rolled → v.soak.isExpired = true → v.request = none →
          ∃ t, exec (.unpin e tag trunk channel) s = .next t ∧ answers t ∧ OnlyMoveOf s t c m ∧
            t.info c = { s.info c with pin := false } ∧
            t.move? m = some { v with request := some (freshRequest s .release false) } ∧
            t.link.outQ = withoutOwned m s.link.outQ ++ [sending m v .release false sl]) ∧
        (∀ res, r.state = .aligned → (s.info c).rollOnCommand = true → v.rollDue = none → v.result = some res →
          ∃ t, exec (.roll e tag trunk channel) s = .next t ∧ answers t ∧ OnlyMoveOf s t c m ∧ DecidedRoll s t m v res ∧
            t.link = s.link) ∧
        (r.state = .aligned → (s.info c).rollOnCommand = true → v.rollDue ≠ none →
          exec (.roll e tag trunk channel) s = .next (s.answered e tag unchanged)) ∧
        (r.state ≠ .aligned ∨ (s.info c).rollOnCommand = false →
          exec (.roll e tag trunk channel) s = .next (s.answered e tag wrongState)) ∧
        (r.state = .rolled → v.ownRolledNoted = true → v.peerRolled = true → v.request = none →
          ∃ t, exec (.release e tag trunk channel) s = .next t ∧ answers t ∧ OnlyMoveOf s t c m ∧
            t.circuits = s.circuits ∧
            t.move? m = some { v with soak := .stopped, request := some (freshRequest s .release false) } ∧
            t.link.outQ = withoutOwned m s.link.outQ ++ [sending m v .release false sl]) ∧
        (r.state = .rolled → v.ownRolledNoted = true → v.peerRolled = true →
          v.request.map Request.kind = some .release →
          exec (.release e tag trunk channel) s = .next (s.answered e tag unchanged)) ∧
        (r.state ≠ .rolled ∨ v.ownRolledNoted = false ∨ v.peerRolled = false →
          exec (.release e tag trunk channel) s = .next (s.answered e tag wrongState)) ∧
        (r.state = .blocking ∨ r.state = .swapping →
          ∃ t, exec (.abandon e tag trunk channel) s = .next t ∧ answers t ∧ OnlyMoveOf s t c m ∧ t.move? m = none ∧
            (t.circ c).restsAt v.dir.startRest ∧ ((t.circ c).blocked = true ↔ r.state = .swapping) ∧
            (t.circ c).lastFault = some .manual ∧ t.pendingCause .moveFailed ∧
            t.link.outQ = withoutOwned m s.link.outQ ++ [{ sending m v .abandon false sl with owner := none }]) ∧
        (r.state = .bridging ∨ r.state.awaitsRoll = true ∨ r.state = .rolled →
          ∃ t, exec (.abandon e tag trunk channel) s = .next t ∧ answers t ∧ OnlyMoveOf s t c m ∧
            FailedInto s t m v .manual ∧
            t.link.outQ = withoutOwned m s.link.outQ ++ [sending m v .abandon false sl]) ∧
        (r.state = .abandoning →
          exec (.abandon e tag trunk channel) s = .next (s.answered e tag unchanged)))

/-- SET_TRUNK_FUNCTION, SET_TRUNK_CODES, INSERT and WITHDRAW (R15, R17 to R19, R74): each served on a trunk that passes its
checks, and refused at the first that fails. A function that differs from the one in force is kept to take effect from the next
site frame; the response reports it.
Choice of the model: what a function that is still to take effect counts for until then (log 16). -/
def Obligations.TrunkRequestsServed : Prop :=
  ∀ (s : State) (e : Entry) (tag trunk : Byte) (k : TrunkId), EntryReady s e → trunkArg trunk = some k →
    let mgmtTrunk := strapMgmtTrunk s.dev.straps = some k
    let atRest := ∀ c, trunkOf c = k → (s.circ c).state.atRest = true ∧ (s.circ c).moveSlot = none
    let answers (t : State) : Prop := Answered t e tag (done codeSetTrunk (trunkBrief t k))
    let others (t : State) : Prop := ∀ j, j ≠ k → t.trunk j = s.trunk j
    let refused (r : Reason) : Host.Outcome State Fault Refusal :=
      .next (s.answered e tag (refusal codeSetTrunk r))
    (∀ function f, functionArg function = some f →
      let cmd : Instr := .setTrunkFunction e tag trunk function
      let barred := (f = .monitor ∧ (s.trunk k).insertion ≠ .bypassed) ∨
        (f = .spanOnly ∧ ∃ c, trunkOf c = k ∧ (s.circ c).state ≠ .moved)
      (¬ atRest → exec cmd s = refused .notAtRest) ∧
      (atRest → mgmtTrunk → f ≠ .trunk → exec cmd s = refused .mgmtChannel) ∧
      (atRest → ¬ (mgmtTrunk ∧ f ≠ .trunk) → barred → exec cmd s = refused .wrongState) ∧
      (atRest → ¬ (mgmtTrunk ∧ f ≠ .trunk) → ¬ barred →
        ∃ t, exec cmd s = .next t ∧ answers t ∧ others t ∧
          t.trunk k = { s.trunk k with coming := if f = (s.trunk k).function then none else some f } ∧
          (t.trunk k).ordered = f ∧ t.circuits = s.circuits ∧ t.map = s.map ∧ t.moves = s.moves ∧ t.sw = s.sw ∧
          t.line = s.line)) ∧
    (∀ named idle blocking vacant : Byte,
      let cmd : Instr := .setTrunkCodes e tag trunk named idle blocking vacant
      let bad := named.toNat % 32 = 0 ∨ namesZero named idle blocking = true
      (bad → exec cmd s = refused .outOfRange) ∧
      (¬ bad → ¬ atRest → exec cmd s = refused .notAtRest) ∧
      (¬ bad → atRest →
        ∃ t, exec cmd s = .next t ∧ answers t ∧ others t ∧ t.map = s.map ∧ t.moves = s.moves ∧
          t.trunk k = { s.trunk k with codes := {
            idleOut := if named.getLsbD 4 then upperCode idle else (s.trunk k).codes.idleOut
            idleIn := if named.getLsbD 3 then lowerCode idle else (s.trunk k).codes.idleIn
            blocking := if named.getLsbD 2 then upperCode blocking else (s.trunk k).codes.blocking
            conditioning := if named.getLsbD 1 then lowerCode blocking else (s.trunk k).codes.conditioning
            vacant := if named.getLsbD 0 then vacant else (s.trunk k).codes.vacant } } ∧
          (∀ c, trunkOf c ≠ k → t.circ c = s.circ c) ∧
          ∀ c, trunkOf c = k → t.circ c = { s.circ c with busy := callBusy (t.trunk k).codes (s.circ c) })) ∧
    (let cmd : Instr := .insert e tag trunk
     (s.dev.devState = .hold → ¬ mgmtTrunk → exec cmd s = refused .held) ∧
     (s.dev.devState ≠ .hold ∨ mgmtTrunk → (s.trunk k).function ≠ .trunk ∨ (s.trunk k).coming ≠ none →
       exec cmd s = refused .wrongState) ∧
     (s.dev.devState ≠ .hold ∨ mgmtTrunk → (s.trunk k).function = .trunk → (s.trunk k).coming = none →
       ∃ t, exec cmd s = .next t ∧ answers t ∧ others t ∧ t.circuits = s.circuits ∧ t.moves = s.moves ∧
         ((s.trunk k).insertion = .bypassed → t.trunk k = { s.trunk k with insertion := .acquiring, settle := 0 }) ∧
         ((s.trunk k).insertion ≠ .bypassed → t.trunk k = s.trunk k))) ∧
    (let cmd : Instr := .withdraw e tag trunk
     let home := ∀ c, trunkOf c = k → (s.circ c).state = .home ∧ (s.circ c).moveSlot = none
     (mgmtTrunk → exec cmd s = refused .mgmtChannel) ∧
     (¬ mgmtTrunk → ¬ home → exec cmd s = refused .notAtRest) ∧
     (¬ mgmtTrunk → home →
       ∃ t, exec cmd s = .next t ∧ answers t ∧ others t ∧ t.circuits = s.circuits ∧ t.moves = s.moves ∧
         t.trunk k = { s.trunk k with insertion := .bypassed, settle := 0, bypass := true }))

/-- SET_PARAMETERS (R14, R131, R154, R157, R174): 1 to 18 entries are written in one step, each parameter named with the value
of its last entry, clamped, rounded or refused by its kind; no other parameter changes but an off-mark that is not below the
on-mark; a new reference port restarts qualification in holdover; the hold-off flag is compared with the marks then in force;
and the response repeats the entries with the values now set, DONE_CLAMPED when one differs from what was given. An identifier
that names no parameter is refused with BAD_REQUEST, a reference port or proxy mode out of range with OUT_OF_RANGE.
Choices of the model: entry counts and the off-mark's clamp (log 22), identifiers before values (log 38),
a parameter named twice judged by its last entry alone (log 45). -/
def Obligations.SetParametersWrites : Prop :=
  ∀ (s : State) (e : Entry) (tag : Byte) (entries : List (Byte × Word16)), EntryReady s e →
    let cmd : Instr := .setParameters e tag entries
    let named := 1 ≤ entries.length ∧ entries.length ≤ 18 ∧ ∀ x ∈ entries, 1 ≤ x.1.toNat ∧ x.1.toNat ≤ 20
    let large := ∃ x ∈ entries, (x.1 = 1 ∧ 15 < x.2.toNat) ∨ (x.1 = 0x13 ∧ 1 < x.2.toNat)
    let given (id : Byte) (v : Word16) : Prop :=
      ∃ before after, entries = before ++ (id, v) :: after ∧ ∀ x ∈ after, x.1 ≠ id
    (¬ named → exec cmd s = .next (s.answered e tag (refusal codeSetParameters .badRequest))) ∧
    (named → large → exec cmd s = .next (s.answered e tag (refusal codeSetParameters .outOfRange))) ∧
    (named → ¬ large →
      ∃ t, exec cmd s = .next t ∧
        t = { s with
          params := t.params, timing := t.timing, link := { s.link with holdOff := t.link.holdOff }, mgmt := t.mgmt } ∧
        (let now := t.params.read t.timing.refPort
        let was := s.params.read s.timing.refPort
        (∀ id v i, given id v → paramOf id = some i →
          (∀ lo hi, (i, lo, hi) ∈ clampedRanges → now i = max lo (min hi v.toNat)) ∧
          (i = .refPort ∨ i = .proxyMode → now i = v.toNat) ∧
          (i = .window → now i = if v.toNat < 24 then 16 else if v.toNat < 48 then 32 else 64) ∧
          (i = .repeatMs → now i % 10 = 0 ∧ (v.toNat < 10 → now i = 10) ∧ (250 < v.toNat → now i = 250) ∧
            10 ≤ now i ∧ now i ≤ 250 ∧
            (10 ≤ v.toNat → v.toNat ≤ 250 → now i ≤ v.toNat + 5 ∧ v.toNat < now i + 5)) ∧
          (i = .offMark → now i = min v.toNat (now .onMark - 1))) ∧
        (∀ id i, paramOf id = some i → (∀ x ∈ entries, x.1 ≠ id) →
          (i ≠ .offMark → now i = was i) ∧ (i = .offMark → now i = min (was i) (now .onMark - 1))) ∧
        t.link.holdOff = (
          let marks : Nat × Nat := match t.params.preset with
            | 0 => (48, 16)
            | 1 => (56, 40)
            | 2 => (32, 8)
            | _ => (t.params.onMark, t.params.offMark)
          if marks.1 ≤ s.link.inQ.length then true else if s.link.inQ.length ≤ marks.2 then false else s.link.holdOff) ∧
        ∃ r, Answered t e tag r ∧
          r.body = codeSetParameters :: entries.flatMap
            (fun x => x.1 :: (paramOf x.1).elim [] fun i => nat16 (now i)) ∧
          r.restart = false ∧
          ((∀ id v i, given id v → paramOf id = some i → now i = v.toNat) → r.status = statusDone) ∧
          (∀ id v i, given id v → paramOf id = some i → now i ≠ v.toNat → r.status = statusDoneClamped)) ∧
        ((∀ v, given 1 v → v.toNat = s.timing.refPort.val) → t.timing = s.timing) ∧
        (∀ v, given 1 v → v.toNat ≠ s.timing.refPort.val →
          t.timing = { s.timing with refPort := t.timing.refPort, qual := 0, holdover := true }) ∧
        t.params.persistenceNow = s.params.persistenceNow ∧ t.params.freezeNow = s.params.freezeNow)

/-- POST_ORDER, CANCEL_ORDER and REMOVE_ORDER (R134 to R136, R143, R145, R147): the checks of each in the order of its rule,
and its effect. A posted order takes the first number from the counter on that no order in the list holds.
Choice of the model: the EVENT cell of the rise that the ORDER_END of a CANCEL_ORDER may bring about goes ahead of the response
on the slot entry, which is so the last cell (log 42). -/
def Obligations.OrderRequestsServed : Prop :=
  ∀ (s : State) (e : Entry) (tag : Byte), EntryReady s e → OrdersSound s →
    (∀ trunk first last direction deadline k d, trunkArg trunk = some k → dirArg direction = some d →
      let cmd : Instr := .postOrder e tag trunk first last direction deadline
      let inScope (c : CircuitId) : Prop :=
        trunkOf c = k ∧ first.toNat ≤ channelOf c ∧ channelOf c ≤ last.toNat ∧ (s.info c).mgmt = false
      let good := channelArg first = true ∧ channelArg last = true ∧ first.toNat ≤ last.toNat ∧ ∃ c, inScope c
      (¬ good → exec cmd s = .next (s.answered e tag (refusal codePostOrder .outOfRange))) ∧
      (good → s.dev.devState = .hold → exec cmd s = .next (s.answered e tag (refusal codePostOrder .held))) ∧
      (good → s.dev.devState ≠ .hold → s.orders.list.length = 32 →
        exec cmd s = .next (s.answered e tag (refusal codePostOrder .listFull))) ∧
      (good → s.dev.devState ≠ .hold → s.orders.list.length < 32 →
        ∃ o : Order,
          exec cmd s = .next ({ s with
            orders := { s.orders with list := s.orders.list ++ [o], counter := o.number + 1 } }.answered e tag
              (done codePostOrder (orderRecord o))) ∧
          (∀ x ∈ s.orders.list, x.number ≠ o.number) ∧
          (∃ j : Nat, o.number = s.orders.counter + BitVec.ofNat 8 j ∧
            ∀ i, i < j → ∃ x ∈ s.orders.list, x.number = s.orders.counter + BitVec.ofNat 8 i) ∧
          o.trunk = k ∧ o.first = first.toNat ∧ o.last = last.toNat ∧ o.dir = d ∧ o.state = .pending ∧
          o.closing = none ∧ o.timer = .stopped ∧ (deadline = 0 → o.deadline = none) ∧
          (deadline ≠ 0 → o.deadline = some deadline) ∧
          (∀ c, (∃ x ∈ o.entries, x.circuit = c) ↔ inScope c) ∧ (∀ x ∈ o.entries, x.state = .unstarted) ∧
          (o.entries.map fun x => channelOf x.circuit).Pairwise (· < ·))) ∧
    (∀ number : Byte,
      let cancel : Instr := .cancelOrder e tag number
      let remove : Instr := .removeOrder e tag number
      (s.dev.devState = .hold →
        exec cancel s = .next (s.answered e tag (refusal codeCancelOrder .held)) ∧
        exec remove s = .next (s.answered e tag (refusal codeRemoveOrder .held))) ∧
      (s.dev.devState ≠ .hold → (∀ o ∈ s.orders.list, o.number ≠ number) →
        exec cancel s = .next (s.answered e tag (refusal codeCancelOrder .outOfRange)) ∧
        exec remove s = .next (s.answered e tag (refusal codeRemoveOrder .outOfRange))) ∧
      ∀ o ∈ s.orders.list, o.number = number → s.dev.devState ≠ .hold →
        (o.state = .pending ∨ o.state = .active →
          exec remove s = .next (s.answered e tag (refusal codeRemoveOrder .wrongState))) ∧
        (o.state ≠ .pending → o.state ≠ .active →
          exec cancel s = .next (s.answered e tag (refusal codeCancelOrder .wrongState)) ∧
          exec remove s = .next ({ s with
            orders := { s.orders with list := s.orders.list.filter fun x => x.number ≠ number } }.answered e tag
              (done codeRemoveOrder []))) ∧
        (o.state = .pending ∨ o.state = .active →
          ∃ t o', exec cancel s = .next t ∧ t.circuits = s.circuits ∧ t.moves = s.moves ∧
            t.orders.list = s.orders.list.map (fun x => if x.number = number then o' else x) ∧
            Answered t e tag (done codeCancelOrder (orderRecord o')) ∧
            (o.state = .pending → o' = { o with state := .cancelled }) ∧
            (o.state = .active → o.settled = false → o.countOf .inFlight = 0 →
              o' = { o with state := .cancelled, closing := none, timer := .stopped } ∨
                (o.closing = some .cancel ∧ o' = o)) ∧
            (o.state = .active → o.settled = false → o.countOf .inFlight ≠ 0 → o' = { o with closing := some .cancel })))

/-- CLEAR_CAUSES, SET_ENABLES and RESTART (R179, R180, R182): causes cleared or enables written, attention judged anew, and
its rise offers one EVENT cell with the next event number, counted and dropped where the queue is full, or rewrites the one
still queued. RESTART is answered; and in every state in which one has been taken, no request row, no proxied request or
response and no cell does anything but leave the entry it came on, neither served nor counted.
Choice of the model: on the slot entry the EVENT cell is queued ahead of the response (log 42). -/
def Obligations.CausesEnablesAndRestart : Prop :=
  (∀ (s : State) (e : Entry) (tag : Byte), EntryReady s e →
    (∀ mask : Word16, ∃ t, exec (.clearCauses e tag mask) s = .next t ∧
      t = { s with mgmt := t.mgmt } ∧ t.mgmt.causes = s.mgmt.causes &&& ~~~(causeMask mask) ∧
      t.mgmt.enables = s.mgmt.enables ∧ (t.mgmt.attention = true ↔ t.mgmt.causes &&& t.mgmt.enables ≠ 0) ∧
      Answered t e tag (done codeClearCauses (causeOctets t.mgmt.causes))) ∧
    (∀ mask : Word16, ∃ t, exec (.setEnables e tag mask) s = .next t ∧
      t = { s with mgmt := t.mgmt } ∧ t.mgmt.causes = s.mgmt.causes ∧ t.mgmt.enables = causeMask mask ∧
      (t.mgmt.attention = true ↔ t.mgmt.causes &&& t.mgmt.enables ≠ 0) ∧
      Answered t e tag (done codeSetEnables (causeOctets t.mgmt.enables)) ∧
      let own := if e = .slot then [responseCell tag targetLocal (done codeSetEnables (causeOctets t.mgmt.enables))] else []
      let body := causeOctets t.mgmt.causes ++ [nat8 (topCause (t.mgmt.causes &&& t.mgmt.enables))]
      (s.mgmt.attention = false → t.mgmt.attention = true → strapMgmtTrunk s.dev.straps ≠ none →
        ((∀ x ∈ s.mgmt.slotQ, x.cell.kind ≠ kindEvent) → t.mgmt.eventCounter = s.mgmt.eventCounter + 1 ∧
          (s.mgmt.slotQ.length < 16 → t.mgmt.slotQ = s.mgmt.slotQ ++ [{
            cell := { kind := kindEvent, tag := s.mgmt.eventCounter, target := targetLocal, status := 0, body := body },
            restart := false }] ++ own) ∧
          (16 ≤ s.mgmt.slotQ.length →
            t.mgmt.slotQ = s.mgmt.slotQ ∧ t.mgmt.slotDiscards = bump s.mgmt.slotDiscards)) ∧
        ((∃ x ∈ s.mgmt.slotQ, x.cell.kind = kindEvent) →
          t.mgmt.slotQ = s.mgmt.slotQ.map (fun x =>
            if x.cell.kind = kindEvent then { x with cell := { x.cell with body := body } } else x) ++ own ∧
          t.mgmt.eventCounter = s.mgmt.eventCounter)) ∧
      (s.mgmt.attention = true ∨ t.mgmt.attention = false ∨ strapMgmtTrunk s.dev.straps = none →
        t.mgmt.slotQ = s.mgmt.slotQ ++ own ∧ t.mgmt.eventCounter = s.mgmt.eventCounter)) ∧
    ∃ t, exec (.restart e tag) s = .next t ∧
      t = { s.answered e tag { done codeRestart [] with restart := true } with mgmt := t.mgmt } ∧
      t.mgmt = { (s.answered e tag { done codeRestart [] with restart := true }).mgmt with restart := .waiting }) ∧
  ∀ s : State, s.dev.powered = true → s.mgmt.restart ≠ .idle →
    (∀ i spare cell, requestBody i spare = some cell → exec i s = .next s) ∧
    (∀ tag body, exec (.proxyRequest tag body) s = .next s) ∧
    (∀ tag status body, exec (.proxyResponse tag status body) s = .next s) ∧
    (∃ rx, exec .slotCellTaken s = .next { s with mgmt := { s.mgmt with slotRx := rx } }) ∧
    exec .spanCellTaken s = .next { s with mgmt := { s.mgmt with spanReady := s.mgmt.spanReady.tail } }

/-- PROXY_REQUEST, PROXY_RESPONSE and PROXY_TIMEOUT (R175 to R177): a request for the far end is refused or forwarded as a
REQUEST of this end with the proxy tag; a RESPONSE with that tag, or the timeout, completes it in the record's mode; another
RESPONSE is discarded and counted.
Choice of the model: the code of an empty body (log 14). -/
def Obligations.ProxyForwardsAndCompletes : Prop :=
  (∀ (s : State) (tag : Byte) (body : List Byte), s.dev.powered = true → s.mgmt.restart = .idle → s.slotEntryOpen = true →
    s.mgmt.slotQ.length < 16 → (serviceOf body).isSome = true → body.length ≤ bodySize →
    let cmd : Instr := .proxyRequest tag body
    let answeredWith (r : Reply) : State :=
      { s with mgmt := { s.mgmt with slotQ := s.mgmt.slotQ ++ [responseCell tag targetPeer r] } }
    (s.mgmt.proxy ≠ none → exec cmd s = .next (answeredWith (refusal (octetAt body 0) .busy))) ∧
    (s.mgmt.proxy = none → s.span.usable = false →
      exec cmd s = .next (answeredWith (refusal (octetAt body 0) .peerAbsent))) ∧
    (s.mgmt.proxy = none → s.span.usable = true → s.mgmt.spanQ.length = 16 →
      exec cmd s = .next (answeredWith (refusal (octetAt body 0) .busy))) ∧
    (s.mgmt.proxy = none → s.span.usable = true → s.mgmt.spanQ.length < 16 →
      exec cmd s = .next { s with mgmt := { s.mgmt with
        spanQ := s.mgmt.spanQ ++ [{
          cell := { kind := kindRequest, tag := s.mgmt.proxyTagCounter, target := targetLocal, status := 0, body := body },
          restart := false }]
        proxyTagCounter := s.mgmt.proxyTagCounter + 1
        proxy := some { stationTag := tag, proxyTag := s.mgmt.proxyTagCounter, mode := s.params.proxyMode,
                        code := octetAt body 0, timer := .counting 0 }
        slotQ := s.mgmt.slotQ ++ (if s.params.proxyMode = .post then
          [responseCell tag targetPeer { status := statusAccepted, body := [] }] else []) } })) ∧
  ∀ (s : State) (p : Proxy), s.dev.powered = true → s.mgmt.proxy = some p → s.mgmt.slotQ.length < 16 →
    let completes (cmd : Instr) (status : Byte) (body : List Byte) : Prop :=
      ∃ t, exec cmd s = .next t ∧ t = { s with mgmt := t.mgmt } ∧ t.mgmt.proxy = none ∧
        (p.mode = .wait → t.mgmt = { s.mgmt with
          proxy := none
          slotQ := s.mgmt.slotQ ++ [responseCell p.stationTag targetPeer { status := status, body := body }] }) ∧
        (p.mode = .post → t.pendingCause .proxyDone ∧
          { cell := { kind := kindProxyResult, tag := p.stationTag, target := targetPeer, status := status, body := body },
            restart := false } ∈ t.mgmt.slotQ)
    (s.mgmt.restart = .idle → ∀ tag status body, body.length ≤ bodySize →
      (tag = p.proxyTag → completes (.proxyResponse tag status body) status body) ∧
      (tag ≠ p.proxyTag → exec (.proxyResponse tag status body) s =
        .next { s with mgmt := { s.mgmt with spanDiscards := bump s.mgmt.spanDiscards } })) ∧
    (p.timer.isDue = true → completes .proxyTimeout Reason.peerTimeout.status [p.code]) ∧
    (p.timer.isDue = false → exec .proxyTimeout s = .next s)

/-- SLOT_CELL_END, SLOT_CELL_TAKEN and SPAN_CELL_TAKEN (R168 to R171, R175, R184; 10.3, 10.6): an ended cell is followed by the
oldest queued one or by an IDLE cell, in the 64 octets of 10.3; a good cell is taken off its entry and answered by its kind,
target and body as `CellAnswered` says: each request's octets are its row, target PEER on the slot entry is PROXY_REQUEST and
a RESPONSE on the span entry PROXY_RESPONSE, and the rest is refused, or discarded and counted. A bad cell is counted on a
locked slot entry, the second in succession ends LOCK; a bad span cell is counted.
Choices of the model: the code octet of a refused empty body (log 14), the order of a request's checks (log 23). -/
def Obligations.CellsSentAndTaken : Prop :=
  (∀ c : Cell, c.body.length ≤ 55 →
    let l := encodeCell c
    GoodCell l ∧ octetAt l 2 = c.kind ∧ octetAt l 3 = c.tag ∧ octetAt l 4 = c.target ∧ octetAt l 5 = c.status ∧
    (octetAt l 6).toNat = c.body.length ∧ (l.drop 7).take 55 = c.body ++ List.replicate (55 - c.body.length) 0) ∧
  (∀ s : State, s.dev.powered = true → s.slotEntryOpen = true →
    (s.mgmt.slotTx = none ∨ ∃ x, s.mgmt.slotTx = some x ∧ 64 ≤ x.sent) →
    (∀ c rest, s.mgmt.slotQ = c :: rest →
      exec .slotCellEnd s = .next { s with mgmt := { s.mgmt with
        slotQ := rest, slotTx := some { octets := encodeCell c.cell, sent := 0, restart := c.restart } } }) ∧
    (s.mgmt.slotQ = [] →
      exec .slotCellEnd s = .next { s with mgmt := { s.mgmt with
        slotTx := some { octets := encodeCell { kind := 0x00, tag := 0, target := 0, status := 0, body := [] }, sent := 0,
                         restart := false } } })) ∧
  (∀ (s : State) (l : List Byte), s.dev.powered = true → s.mgmt.restart = .idle → s.slotEntryOpen = true →
    l.length = 64 → s.mgmt.slotRx.buf = l →
    (GoodCell l →
      CellAnswered .slot l { s with mgmt := { s.mgmt with slotRx := { locked := true, bad := 0, buf := [] } } }
        (exec .slotCellTaken s)) ∧
    (¬ GoodCell l → s.mgmt.slotRx.locked = true →
      ∃ t, exec .slotCellTaken s = .next t ∧ t.mgmt.slotDiscards = bump s.mgmt.slotDiscards ∧
        (s.mgmt.slotRx.bad = 0 → t.mgmt.slotRx = { locked := true, bad := 1, buf := [] }) ∧
        (s.mgmt.slotRx.bad = 1 → t.mgmt.slotRx.locked = false ∧ t.mgmt.slotRx.bad = 0)) ∧
    (¬ GoodCell l → s.mgmt.slotRx.locked = false →
      ∃ t, exec .slotCellTaken s = .next t ∧ t.mgmt.slotDiscards = s.mgmt.slotDiscards ∧
        t.mgmt.slotRx.locked = false ∧ t.mgmt.slotRx.buf.length < 64)) ∧
  ∀ (s : State) (c : SpanReady) (rest : List SpanReady), s.dev.powered = true → s.mgmt.restart = .idle →
    s.mgmt.spanReady = c :: rest →
    let taken : State := { s with mgmt := { s.mgmt with spanReady := rest } }
    (c.bad = false → GoodCell c.octets → CellAnswered .span c.octets taken (exec .spanCellTaken s)) ∧
    (c.bad = true ∨ (c.octets.length = 64 ∧ ¬ GoodCell c.octets) → exec .spanCellTaken s = .next (taken.discarding .span))

/-! What every step keeps -/

/-- The frame of every row: moves, notices, orders, timers and circuit commands keep device, site timing, parameters, trunks,
ports, span receive and the frames sent; only SET_CIRCUIT, FILL_BLOCK, PIN, UNPIN, a taken cell, a reset, and
SITE_FRAME, which takes the cells that wait and a RESTART's due reset, change the circuit map; the port rows keep
the span and the span rows the ports; only SITE_FRAME and a reset write the history store. -/
def Obligations.StepsKeepTheirFrame : Prop :=
  ∀ (c : Instr) (s t : State), exec c s = .next t →
    (keepsSurroundings c = true → t.surroundings = s.surroundings) ∧
    (keepsMap c = true → t.map = s.map) ∧
    (writesHistory c = false → t.align.history = s.align.history) ∧
    ((∃ p b, c = .portLos p b) ∨ (∃ p l, c = .portFrameReceived p l) →
      t.dev = s.dev ∧ t.params = s.params ∧ t.span = s.span ∧ t.tx = s.tx) ∧
    ((∃ b, c = .spanLos b) ∨ (∃ l, c = .spanFrameReceived l) ∨ c = .degradeIntervalEnd →
      t.dev = s.dev ∧ t.timing = s.timing ∧ t.params = s.params ∧ t.trunks = s.trunks ∧ t.sw = s.sw ∧ t.line = s.line ∧
      t.tx = s.tx)

/-- Every step keeps the ports and the span receive sound: the available flag is R4's judgement and the usable flag R40's,
LOS and loss of alignment leave what R2, R3, R5, R27, R28, R37 and R38 say, and stores and runs stay in bounds. -/
def Obligations.ReceiveSoundKept : Prop :=
  ∀ s t : State, PortsSound s → SpanSound s → step s = .next t → PortsSound t ∧ SpanSound t

/-- Every step keeps the slot directory and the records in agreement, the trunks as R15, R16, R20, R22 and R74 say, and every
parameter in the range of 10.5. -/
def Obligations.MapTrunksAndParametersKept : Prop :=
  ∀ s t : State, MapSound s → TrunksSound s → ParamsSound s → step s = .next t →
    MapSound t ∧ TrunksSound t ∧ ParamsSound t

/-- Every step keeps the notice and cell queues within their sizes, and the order list within 32 orders of distinct numbers,
at most 4 of them ACTIVE. -/
def Obligations.QueuesAndOrdersKept : Prop :=
  ∀ s t : State, QueuesSound s → OrdersSound s → step s = .next t → QueuesSound t ∧ OrdersSound t

/-- Every step keeps circuits and move slots pointing at one another: a circuit holds a slot exactly when it is not at rest,
with its move's direction and order. -/
def Obligations.MovesKept : Prop :=
  ∀ s t : State, MovesSound s → step s = .next t → MovesSound t

/-- The invariants hold right after a device reset with any levels on the straps, and at `State.reset` (log 9). -/
def Obligations.InvariantsHoldAtReset : Prop :=
  (∀ (pins : Straps) (queue : List Instr),
    let s := State.resetWith pins queue
    PortsSound s ∧ SpanSound s ∧ MapSound s ∧ TrunksSound s ∧ ParamsSound s ∧ QueuesSound s ∧ OrdersSound s ∧
      MovesSound s) ∧
  State.reset.pending = [] ∧ ∃ pins, State.reset = State.resetWith pins []
end

