-- ==== Sys2Proof/Laws/State.lean ====
section
/-! SUPPORT. One lemma per field of State per update, each true by rfl. -/
namespace Sys2Proof.Machine

variable (s : State)

@[simp] theorem modCirc_dev (c : CircuitId) (f : Circuit → Circuit) : (s.modCirc c f).dev = s.dev := rfl
@[simp] theorem modCirc_timing (c : CircuitId) (f : Circuit → Circuit) : (s.modCirc c f).timing = s.timing := rfl
@[simp] theorem modCirc_params (c : CircuitId) (f : Circuit → Circuit) : (s.modCirc c f).params = s.params := rfl
@[simp] theorem modCirc_trunks (c : CircuitId) (f : Circuit → Circuit) : (s.modCirc c f).trunks = s.trunks := rfl
@[simp] theorem modCirc_sw (c : CircuitId) (f : Circuit → Circuit) : (s.modCirc c f).sw = s.sw := rfl
@[simp] theorem modCirc_line (c : CircuitId) (f : Circuit → Circuit) : (s.modCirc c f).line = s.line := rfl
@[simp] theorem modCirc_span (c : CircuitId) (f : Circuit → Circuit) : (s.modCirc c f).span = s.span := rfl
@[simp] theorem modCirc_map (c : CircuitId) (f : Circuit → Circuit) : (s.modCirc c f).map = s.map := rfl
@[simp] theorem modCirc_circuits (c : CircuitId) (f : Circuit → Circuit) : (s.modCirc c f).circuits = s.circuits.modify c f := rfl
@[simp] theorem modCirc_moves (c : CircuitId) (f : Circuit → Circuit) : (s.modCirc c f).moves = s.moves := rfl
@[simp] theorem modCirc_align (c : CircuitId) (f : Circuit → Circuit) : (s.modCirc c f).align = s.align := rfl
@[simp] theorem modCirc_orders (c : CircuitId) (f : Circuit → Circuit) : (s.modCirc c f).orders = s.orders := rfl
@[simp] theorem modCirc_link (c : CircuitId) (f : Circuit → Circuit) : (s.modCirc c f).link = s.link := rfl
@[simp] theorem modCirc_mgmt (c : CircuitId) (f : Circuit → Circuit) : (s.modCirc c f).mgmt = s.mgmt := rfl
@[simp] theorem modCirc_tx (c : CircuitId) (f : Circuit → Circuit) : (s.modCirc c f).tx = s.tx := rfl
@[simp] theorem modCirc_pending (c : CircuitId) (f : Circuit → Circuit) : (s.modCirc c f).pending = s.pending := rfl

@[simp] theorem modMove_dev (m : MoveId) (f : Move → Move) : (s.modMove m f).dev = s.dev := rfl
@[simp] theorem modMove_timing (m : MoveId) (f : Move → Move) : (s.modMove m f).timing = s.timing := rfl
@[simp] theorem modMove_params (m : MoveId) (f : Move → Move) : (s.modMove m f).params = s.params := rfl
@[simp] theorem modMove_trunks (m : MoveId) (f : Move → Move) : (s.modMove m f).trunks = s.trunks := rfl
@[simp] theorem modMove_sw (m : MoveId) (f : Move → Move) : (s.modMove m f).sw = s.sw := rfl
@[simp] theorem modMove_line (m : MoveId) (f : Move → Move) : (s.modMove m f).line = s.line := rfl
@[simp] theorem modMove_span (m : MoveId) (f : Move → Move) : (s.modMove m f).span = s.span := rfl
@[simp] theorem modMove_map (m : MoveId) (f : Move → Move) : (s.modMove m f).map = s.map := rfl
@[simp] theorem modMove_circuits (m : MoveId) (f : Move → Move) : (s.modMove m f).circuits = s.circuits := rfl
@[simp] theorem modMove_moves (m : MoveId) (f : Move → Move) : (s.modMove m f).moves = { s.moves with slots := s.moves.slots.modify m (Option.map f) } := rfl
@[simp] theorem modMove_align (m : MoveId) (f : Move → Move) : (s.modMove m f).align = s.align := rfl
@[simp] theorem modMove_orders (m : MoveId) (f : Move → Move) : (s.modMove m f).orders = s.orders := rfl
@[simp] theorem modMove_link (m : MoveId) (f : Move → Move) : (s.modMove m f).link = s.link := rfl
@[simp] theorem modMove_mgmt (m : MoveId) (f : Move → Move) : (s.modMove m f).mgmt = s.mgmt := rfl
@[simp] theorem modMove_tx (m : MoveId) (f : Move → Move) : (s.modMove m f).tx = s.tx := rfl
@[simp] theorem modMove_pending (m : MoveId) (f : Move → Move) : (s.modMove m f).pending = s.pending := rfl

@[simp] theorem modTrunk_dev (k : TrunkId) (f : Trunk → Trunk) : (s.modTrunk k f).dev = s.dev := rfl
@[simp] theorem modTrunk_timing (k : TrunkId) (f : Trunk → Trunk) : (s.modTrunk k f).timing = s.timing := rfl
@[simp] theorem modTrunk_params (k : TrunkId) (f : Trunk → Trunk) : (s.modTrunk k f).params = s.params := rfl
@[simp] theorem modTrunk_trunks (k : TrunkId) (f : Trunk → Trunk) : (s.modTrunk k f).trunks = s.trunks.modify k f := rfl
@[simp] theorem modTrunk_sw (k : TrunkId) (f : Trunk → Trunk) : (s.modTrunk k f).sw = s.sw := rfl
@[simp] theorem modTrunk_line (k : TrunkId) (f : Trunk → Trunk) : (s.modTrunk k f).line = s.line := rfl
@[simp] theorem modTrunk_span (k : TrunkId) (f : Trunk → Trunk) : (s.modTrunk k f).span = s.span := rfl
@[simp] theorem modTrunk_map (k : TrunkId) (f : Trunk → Trunk) : (s.modTrunk k f).map = s.map := rfl
@[simp] theorem modTrunk_circuits (k : TrunkId) (f : Trunk → Trunk) : (s.modTrunk k f).circuits = s.circuits := rfl
@[simp] theorem modTrunk_moves (k : TrunkId) (f : Trunk → Trunk) : (s.modTrunk k f).moves = s.moves := rfl
@[simp] theorem modTrunk_align (k : TrunkId) (f : Trunk → Trunk) : (s.modTrunk k f).align = s.align := rfl
@[simp] theorem modTrunk_orders (k : TrunkId) (f : Trunk → Trunk) : (s.modTrunk k f).orders = s.orders := rfl
@[simp] theorem modTrunk_link (k : TrunkId) (f : Trunk → Trunk) : (s.modTrunk k f).link = s.link := rfl
@[simp] theorem modTrunk_mgmt (k : TrunkId) (f : Trunk → Trunk) : (s.modTrunk k f).mgmt = s.mgmt := rfl
@[simp] theorem modTrunk_tx (k : TrunkId) (f : Trunk → Trunk) : (s.modTrunk k f).tx = s.tx := rfl
@[simp] theorem modTrunk_pending (k : TrunkId) (f : Trunk → Trunk) : (s.modTrunk k f).pending = s.pending := rfl

@[simp] theorem modMgmt_dev (f : Mgmt → Mgmt) : (s.modMgmt f).dev = s.dev := rfl
@[simp] theorem modMgmt_timing (f : Mgmt → Mgmt) : (s.modMgmt f).timing = s.timing := rfl
@[simp] theorem modMgmt_params (f : Mgmt → Mgmt) : (s.modMgmt f).params = s.params := rfl
@[simp] theorem modMgmt_trunks (f : Mgmt → Mgmt) : (s.modMgmt f).trunks = s.trunks := rfl
@[simp] theorem modMgmt_sw (f : Mgmt → Mgmt) : (s.modMgmt f).sw = s.sw := rfl
@[simp] theorem modMgmt_line (f : Mgmt → Mgmt) : (s.modMgmt f).line = s.line := rfl
@[simp] theorem modMgmt_span (f : Mgmt → Mgmt) : (s.modMgmt f).span = s.span := rfl
@[simp] theorem modMgmt_map (f : Mgmt → Mgmt) : (s.modMgmt f).map = s.map := rfl
@[simp] theorem modMgmt_circuits (f : Mgmt → Mgmt) : (s.modMgmt f).circuits = s.circuits := rfl
@[simp] theorem modMgmt_moves (f : Mgmt → Mgmt) : (s.modMgmt f).moves = s.moves := rfl
@[simp] theorem modMgmt_align (f : Mgmt → Mgmt) : (s.modMgmt f).align = s.align := rfl
@[simp] theorem modMgmt_orders (f : Mgmt → Mgmt) : (s.modMgmt f).orders = s.orders := rfl
@[simp] theorem modMgmt_link (f : Mgmt → Mgmt) : (s.modMgmt f).link = s.link := rfl
@[simp] theorem modMgmt_mgmt (f : Mgmt → Mgmt) : (s.modMgmt f).mgmt = f s.mgmt := rfl
@[simp] theorem modMgmt_tx (f : Mgmt → Mgmt) : (s.modMgmt f).tx = s.tx := rfl
@[simp] theorem modMgmt_pending (f : Mgmt → Mgmt) : (s.modMgmt f).pending = s.pending := rfl

@[simp] theorem modLink_dev (f : Link → Link) : (s.modLink f).dev = s.dev := rfl
@[simp] theorem modLink_timing (f : Link → Link) : (s.modLink f).timing = s.timing := rfl
@[simp] theorem modLink_params (f : Link → Link) : (s.modLink f).params = s.params := rfl
@[simp] theorem modLink_trunks (f : Link → Link) : (s.modLink f).trunks = s.trunks := rfl
@[simp] theorem modLink_sw (f : Link → Link) : (s.modLink f).sw = s.sw := rfl
@[simp] theorem modLink_line (f : Link → Link) : (s.modLink f).line = s.line := rfl
@[simp] theorem modLink_span (f : Link → Link) : (s.modLink f).span = s.span := rfl
@[simp] theorem modLink_map (f : Link → Link) : (s.modLink f).map = s.map := rfl
@[simp] theorem modLink_circuits (f : Link → Link) : (s.modLink f).circuits = s.circuits := rfl
@[simp] theorem modLink_moves (f : Link → Link) : (s.modLink f).moves = s.moves := rfl
@[simp] theorem modLink_align (f : Link → Link) : (s.modLink f).align = s.align := rfl
@[simp] theorem modLink_orders (f : Link → Link) : (s.modLink f).orders = s.orders := rfl
@[simp] theorem modLink_link (f : Link → Link) : (s.modLink f).link = f s.link := rfl
@[simp] theorem modLink_mgmt (f : Link → Link) : (s.modLink f).mgmt = s.mgmt := rfl
@[simp] theorem modLink_tx (f : Link → Link) : (s.modLink f).tx = s.tx := rfl
@[simp] theorem modLink_pending (f : Link → Link) : (s.modLink f).pending = s.pending := rfl

@[simp] theorem modAlign_dev (f : AlignUnit → AlignUnit) : (s.modAlign f).dev = s.dev := rfl
@[simp] theorem modAlign_timing (f : AlignUnit → AlignUnit) : (s.modAlign f).timing = s.timing := rfl
@[simp] theorem modAlign_params (f : AlignUnit → AlignUnit) : (s.modAlign f).params = s.params := rfl
@[simp] theorem modAlign_trunks (f : AlignUnit → AlignUnit) : (s.modAlign f).trunks = s.trunks := rfl
@[simp] theorem modAlign_sw (f : AlignUnit → AlignUnit) : (s.modAlign f).sw = s.sw := rfl
@[simp] theorem modAlign_line (f : AlignUnit → AlignUnit) : (s.modAlign f).line = s.line := rfl
@[simp] theorem modAlign_span (f : AlignUnit → AlignUnit) : (s.modAlign f).span = s.span := rfl
@[simp] theorem modAlign_map (f : AlignUnit → AlignUnit) : (s.modAlign f).map = s.map := rfl
@[simp] theorem modAlign_circuits (f : AlignUnit → AlignUnit) : (s.modAlign f).circuits = s.circuits := rfl
@[simp] theorem modAlign_moves (f : AlignUnit → AlignUnit) : (s.modAlign f).moves = s.moves := rfl
@[simp] theorem modAlign_align (f : AlignUnit → AlignUnit) : (s.modAlign f).align = f s.align := rfl
@[simp] theorem modAlign_orders (f : AlignUnit → AlignUnit) : (s.modAlign f).orders = s.orders := rfl
@[simp] theorem modAlign_link (f : AlignUnit → AlignUnit) : (s.modAlign f).link = s.link := rfl
@[simp] theorem modAlign_mgmt (f : AlignUnit → AlignUnit) : (s.modAlign f).mgmt = s.mgmt := rfl
@[simp] theorem modAlign_tx (f : AlignUnit → AlignUnit) : (s.modAlign f).tx = s.tx := rfl
@[simp] theorem modAlign_pending (f : AlignUnit → AlignUnit) : (s.modAlign f).pending = s.pending := rfl

@[simp] theorem modSpan_dev (f : SpanRx → SpanRx) : (s.modSpan f).dev = s.dev := rfl
@[simp] theorem modSpan_timing (f : SpanRx → SpanRx) : (s.modSpan f).timing = s.timing := rfl
@[simp] theorem modSpan_params (f : SpanRx → SpanRx) : (s.modSpan f).params = s.params := rfl
@[simp] theorem modSpan_trunks (f : SpanRx → SpanRx) : (s.modSpan f).trunks = s.trunks := rfl
@[simp] theorem modSpan_sw (f : SpanRx → SpanRx) : (s.modSpan f).sw = s.sw := rfl
@[simp] theorem modSpan_line (f : SpanRx → SpanRx) : (s.modSpan f).line = s.line := rfl
@[simp] theorem modSpan_span (f : SpanRx → SpanRx) : (s.modSpan f).span = f s.span := rfl
@[simp] theorem modSpan_map (f : SpanRx → SpanRx) : (s.modSpan f).map = s.map := rfl
@[simp] theorem modSpan_circuits (f : SpanRx → SpanRx) : (s.modSpan f).circuits = s.circuits := rfl
@[simp] theorem modSpan_moves (f : SpanRx → SpanRx) : (s.modSpan f).moves = s.moves := rfl
@[simp] theorem modSpan_align (f : SpanRx → SpanRx) : (s.modSpan f).align = s.align := rfl
@[simp] theorem modSpan_orders (f : SpanRx → SpanRx) : (s.modSpan f).orders = s.orders := rfl
@[simp] theorem modSpan_link (f : SpanRx → SpanRx) : (s.modSpan f).link = s.link := rfl
@[simp] theorem modSpan_mgmt (f : SpanRx → SpanRx) : (s.modSpan f).mgmt = s.mgmt := rfl
@[simp] theorem modSpan_tx (f : SpanRx → SpanRx) : (s.modSpan f).tx = s.tx := rfl
@[simp] theorem modSpan_pending (f : SpanRx → SpanRx) : (s.modSpan f).pending = s.pending := rfl

@[simp] theorem modOrders_dev (f : OrderUnit → OrderUnit) : (s.modOrders f).dev = s.dev := rfl
@[simp] theorem modOrders_timing (f : OrderUnit → OrderUnit) : (s.modOrders f).timing = s.timing := rfl
@[simp] theorem modOrders_params (f : OrderUnit → OrderUnit) : (s.modOrders f).params = s.params := rfl
@[simp] theorem modOrders_trunks (f : OrderUnit → OrderUnit) : (s.modOrders f).trunks = s.trunks := rfl
@[simp] theorem modOrders_sw (f : OrderUnit → OrderUnit) : (s.modOrders f).sw = s.sw := rfl
@[simp] theorem modOrders_line (f : OrderUnit → OrderUnit) : (s.modOrders f).line = s.line := rfl
@[simp] theorem modOrders_span (f : OrderUnit → OrderUnit) : (s.modOrders f).span = s.span := rfl
@[simp] theorem modOrders_map (f : OrderUnit → OrderUnit) : (s.modOrders f).map = s.map := rfl
@[simp] theorem modOrders_circuits (f : OrderUnit → OrderUnit) : (s.modOrders f).circuits = s.circuits := rfl
@[simp] theorem modOrders_moves (f : OrderUnit → OrderUnit) : (s.modOrders f).moves = s.moves := rfl
@[simp] theorem modOrders_align (f : OrderUnit → OrderUnit) : (s.modOrders f).align = s.align := rfl
@[simp] theorem modOrders_orders (f : OrderUnit → OrderUnit) : (s.modOrders f).orders = f s.orders := rfl
@[simp] theorem modOrders_link (f : OrderUnit → OrderUnit) : (s.modOrders f).link = s.link := rfl
@[simp] theorem modOrders_mgmt (f : OrderUnit → OrderUnit) : (s.modOrders f).mgmt = s.mgmt := rfl
@[simp] theorem modOrders_tx (f : OrderUnit → OrderUnit) : (s.modOrders f).tx = s.tx := rfl
@[simp] theorem modOrders_pending (f : OrderUnit → OrderUnit) : (s.modOrders f).pending = s.pending := rfl

@[simp] theorem modInfo_dev (c : CircuitId) (f : Loaded → Loaded) : (s.modInfo c f).dev = s.dev := rfl
@[simp] theorem modInfo_timing (c : CircuitId) (f : Loaded → Loaded) : (s.modInfo c f).timing = s.timing := rfl
@[simp] theorem modInfo_params (c : CircuitId) (f : Loaded → Loaded) : (s.modInfo c f).params = s.params := rfl
@[simp] theorem modInfo_trunks (c : CircuitId) (f : Loaded → Loaded) : (s.modInfo c f).trunks = s.trunks := rfl
@[simp] theorem modInfo_sw (c : CircuitId) (f : Loaded → Loaded) : (s.modInfo c f).sw = s.sw := rfl
@[simp] theorem modInfo_line (c : CircuitId) (f : Loaded → Loaded) : (s.modInfo c f).line = s.line := rfl
@[simp] theorem modInfo_span (c : CircuitId) (f : Loaded → Loaded) : (s.modInfo c f).span = s.span := rfl
@[simp] theorem modInfo_map (c : CircuitId) (f : Loaded → Loaded) : (s.modInfo c f).map = { s.map with loaded := s.map.loaded.modify c f } := rfl
@[simp] theorem modInfo_circuits (c : CircuitId) (f : Loaded → Loaded) : (s.modInfo c f).circuits = s.circuits := rfl
@[simp] theorem modInfo_moves (c : CircuitId) (f : Loaded → Loaded) : (s.modInfo c f).moves = s.moves := rfl
@[simp] theorem modInfo_align (c : CircuitId) (f : Loaded → Loaded) : (s.modInfo c f).align = s.align := rfl
@[simp] theorem modInfo_orders (c : CircuitId) (f : Loaded → Loaded) : (s.modInfo c f).orders = s.orders := rfl
@[simp] theorem modInfo_link (c : CircuitId) (f : Loaded → Loaded) : (s.modInfo c f).link = s.link := rfl
@[simp] theorem modInfo_mgmt (c : CircuitId) (f : Loaded → Loaded) : (s.modInfo c f).mgmt = s.mgmt := rfl
@[simp] theorem modInfo_tx (c : CircuitId) (f : Loaded → Loaded) : (s.modInfo c f).tx = s.tx := rfl
@[simp] theorem modInfo_pending (c : CircuitId) (f : Loaded → Loaded) : (s.modInfo c f).pending = s.pending := rfl

@[simp] theorem modPort_dev (p : PortId) (f : PortRx → PortRx) : (s.modPort p f).dev = s.dev := by cases p <;> rfl
@[simp] theorem modPort_timing (p : PortId) (f : PortRx → PortRx) : (s.modPort p f).timing = s.timing := by cases p <;> rfl
@[simp] theorem modPort_params (p : PortId) (f : PortRx → PortRx) : (s.modPort p f).params = s.params := by cases p <;> rfl
@[simp] theorem modPort_trunks (p : PortId) (f : PortRx → PortRx) : (s.modPort p f).trunks = s.trunks := by cases p <;> rfl
@[simp] theorem modPort_span (p : PortId) (f : PortRx → PortRx) : (s.modPort p f).span = s.span := by cases p <;> rfl
@[simp] theorem modPort_map (p : PortId) (f : PortRx → PortRx) : (s.modPort p f).map = s.map := by cases p <;> rfl
@[simp] theorem modPort_circuits (p : PortId) (f : PortRx → PortRx) : (s.modPort p f).circuits = s.circuits := by cases p <;> rfl
@[simp] theorem modPort_moves (p : PortId) (f : PortRx → PortRx) : (s.modPort p f).moves = s.moves := by cases p <;> rfl
@[simp] theorem modPort_align (p : PortId) (f : PortRx → PortRx) : (s.modPort p f).align = s.align := by cases p <;> rfl
@[simp] theorem modPort_orders (p : PortId) (f : PortRx → PortRx) : (s.modPort p f).orders = s.orders := by cases p <;> rfl
@[simp] theorem modPort_link (p : PortId) (f : PortRx → PortRx) : (s.modPort p f).link = s.link := by cases p <;> rfl
@[simp] theorem modPort_mgmt (p : PortId) (f : PortRx → PortRx) : (s.modPort p f).mgmt = s.mgmt := by cases p <;> rfl
@[simp] theorem modPort_tx (p : PortId) (f : PortRx → PortRx) : (s.modPort p f).tx = s.tx := by cases p <;> rfl
@[simp] theorem modPort_pending (p : PortId) (f : PortRx → PortRx) : (s.modPort p f).pending = s.pending := by cases p <;> rfl

end Sys2Proof.Machine
end

