-- ==== Sys2Proof/Laws/Table.lean ====
section
/-! SUPPORT. What reading a table gives after each operation on it. -/
namespace Sys2Proof

variable {n : Nat} {α β : Type}

theorem Table.get_eq (t : Table n α) (i : Fin n) : t.get i = t.cells[i.val]'(by rw [t.len]; exact i.isLt) := rfl

@[simp] theorem Table.get_set_self (t : Table n α) (i : Fin n) (a : α) : (t.set i a).get i = a := by
  simp [Table.get, Table.set]

theorem Table.get_set_ne (t : Table n α) {i j : Fin n} (a : α) (h : i ≠ j) : (t.set i a).get j = t.get j := by
  have : i.val ≠ j.val := fun e => h (Fin.ext e)
  simp [Table.get, Table.set, this]

theorem Table.get_set (t : Table n α) (i j : Fin n) (a : α) : (t.set i a).get j = if i = j then a else t.get j := by
  by_cases h : i = j
  · subst h; simp
  · rw [Table.get_set_ne _ _ h, if_neg h]

@[simp] theorem Table.get_modify_self (t : Table n α) (i : Fin n) (f : α → α) : (t.modify i f).get i = f (t.get i) := by
  simp [Table.modify]

theorem Table.get_modify_ne (t : Table n α) {i j : Fin n} (f : α → α) (h : i ≠ j) : (t.modify i f).get j = t.get j :=
  Table.get_set_ne _ _ h

theorem Table.get_modify (t : Table n α) (i j : Fin n) (f : α → α) :
    (t.modify i f).get j = if i = j then f (t.get j) else t.get j := by
  by_cases h : i = j
  · subst h; simp
  · rw [Table.get_modify_ne _ _ h, if_neg h]

@[simp] theorem Table.get_replicate (a : α) (i : Fin n) : (Table.replicate n a).get i = a := by
  simp [Table.get, Table.replicate]

@[simp] theorem Table.get_ofFn (f : Fin n → α) (i : Fin n) : (Table.ofFn f).get i = f i := by
  simp [Table.get, Table.ofFn]

@[simp] theorem Table.get_map (f : α → β) (t : Table n α) (i : Fin n) : (t.map f).get i = f (t.get i) := by
  simp [Table.get, Table.map]

@[simp] theorem Table.get_mapIdx (f : Fin n → α → β) (t : Table n α) (i : Fin n) :
    (t.mapIdx f).get i = f i (t.get i) := by
  simp [Table.get, Table.mapIdx]

/-- Two tables with the same entries are the same table. -/
theorem Table.ext_get {t u : Table n α} (h : ∀ i, t.get i = u.get i) : t = u := by
  obtain ⟨l, hl⟩ := t
  obtain ⟨k, hk⟩ := u
  have : l = k := by
    apply List.ext_getElem (by rw [hl, hk])
    intro i h1 _
    exact h ⟨i, hl ▸ h1⟩
  subst this
  rfl

/-- A changed entry that keeps its image keeps the image of the table. -/
theorem Table.map_modify (g : α → β) (f : α → α) (t : Table n α) (i : Fin n) (h : ∀ a, g (f a) = g a) :
    (t.modify i f).map g = t.map g := by
  apply Table.ext_get
  intro j
  rw [Table.get_map, Table.get_map, Table.get_modify]
  split <;> simp [h]

/-- Entries changed without a change of their images keep the image of the table. -/
theorem Table.map_map (g : β → α) (f : α → β) (t : Table n α) : (t.map f).map g = t.map fun a => g (f a) := by
  apply Table.ext_get
  intro j
  simp

theorem Table.map_mapIdx (g : α → β) (f : Fin n → α → α) (t : Table n α) (h : ∀ i a, g (f i a) = g a) :
    (t.mapIdx f).map g = t.map g := by
  apply Table.ext_get
  intro j
  simp [h]

/-- An index is listed exactly when its entry satisfies the condition. -/
theorem Table.mem_indices (p : α → Bool) (t : Table n α) (i : Fin n) : i ∈ t.indices p ↔ p (t.get i) = true := by
  unfold Table.indices
  simp only [List.mem_map, List.mem_filter, Prod.exists, exists_and_right, exists_eq_right]
  constructor
  · rintro ⟨a, hm, hp⟩
    obtain ⟨k, hk, e⟩ := List.mem_iff_getElem.mp hm
    simp only [List.getElem_zip, Prod.mk.injEq, List.getElem_finRange] at e
    obtain ⟨e1, e2⟩ := e
    subst e1
    rw [← e2] at hp
    exact hp
  · intro hp
    refine ⟨t.get i, ?_, hp⟩
    rw [List.mem_iff_getElem]
    refine ⟨i.val, by simp [List.length_zip, t.len], ?_⟩
    simp [Table.get]

/-- The lowest index found satisfies the condition. -/
theorem Table.first?_some {p : α → Bool} {t : Table n α} {i : Fin n} (h : t.first? p = some i) : p (t.get i) = true :=
  (Table.mem_indices p t i).mp (List.mem_of_head? h)

/-- No index is found exactly when no entry satisfies the condition. -/
theorem Table.first?_none {p : α → Bool} {t : Table n α} : t.first? p = none ↔ ∀ i, p (t.get i) = false := by
  unfold Table.first?
  rw [List.head?_eq_none_iff]
  constructor
  · intro h i
    cases hp : p (t.get i) with
    | false => rfl
    | true =>
      have := (Table.mem_indices p t i).mpr hp
      simp [h] at this
  · intro h
    apply List.eq_nil_iff_forall_not_mem.mpr
    intro i hi
    have := (Table.mem_indices p t i).mp hi
    simp [h i] at this

end Sys2Proof
end

