-- ==== Sys2Proof/Laws/Kept.lean ====
section
/-! SUPPORT. What almost every operation leaves alone: the device and its straps, the site frame count, the parameters, the
map's slots and directory, each trunk's insertion, bypass, function and codes, the history store, and the
queue of commands. -/
namespace Sys2Proof.Machine

/-- The part of a trunk that only a few operations change: all but its settle timer. -/
def Trunk.kept (t : Trunk) : Insertion × Bool × TrunkFunction × TrunkCodes := (t.insertion, t.bypass, t.function, t.codes)

/-- The part of a loaded record that only a change of its span slot or a reset changes. -/
def Loaded.kept (i : Loaded) : Option SlotId × Bool := (i.slot, i.mgmt)

/-- What almost every operation leaves alone. -/
structure Kept where
  dev : Device
  count : Frame
  params : Params
  slots : Table 480 (Option SlotId × Bool)
  directory : Table 512 (Option CircuitId)
  trunks : Table 16 (Insertion × Bool × TrunkFunction × TrunkCodes)
  history : Table 512 HistRow
  pending : List Instr

/-- The kept part of a state. -/
def State.kept (s : State) : Kept :=
  { dev := s.dev, count := s.timing.count, params := s.params, slots := s.map.loaded.map Loaded.kept,
    directory := s.map.directory, trunks := s.trunks.map Trunk.kept, history := s.align.history,
    pending := s.pending }

variable (s : State)

/-! Updates -/

@[simp] theorem kept_modCirc (c : CircuitId) (f : Circuit → Circuit) : (s.modCirc c f).kept = s.kept := rfl
@[simp] theorem kept_modMove (m : MoveId) (f : Move → Move) : (s.modMove m f).kept = s.kept := rfl
@[simp] theorem kept_modMgmt (f : Mgmt → Mgmt) : (s.modMgmt f).kept = s.kept := rfl
@[simp] theorem kept_modLink (f : Link → Link) : (s.modLink f).kept = s.kept := rfl
@[simp] theorem kept_modSpan (f : SpanRx → SpanRx) : (s.modSpan f).kept = s.kept := rfl
@[simp] theorem kept_modOrders (f : OrderUnit → OrderUnit) : (s.modOrders f).kept = s.kept := rfl
@[simp] theorem kept_modPort (p : PortId) (f : PortRx → PortRx) : (s.modPort p f).kept = s.kept := by cases p <;> rfl
@[simp] theorem kept_circuits (t : Table 480 Circuit) : State.kept { s with circuits := t } = s.kept := rfl

@[simp] theorem kept_modAlign (f : AlignUnit → AlignUnit) (h : ∀ a, (f a).history = a.history) :
    (s.modAlign f).kept = s.kept := by
  simp [State.kept, h]

theorem kept_modTrunk (k : TrunkId) (f : Trunk → Trunk) (h : ∀ t, (f t).kept = t.kept) :
    (s.modTrunk k f).kept = s.kept := by
  simp [State.kept, Table.map_modify Trunk.kept f s.trunks k h]

theorem kept_modInfo (c : CircuitId) (f : Loaded → Loaded) (h : ∀ i, (f i).kept = i.kept) :
    (s.modInfo c f).kept = s.kept := by
  simp [State.kept, Table.map_modify Loaded.kept f s.map.loaded c h]

/-- Reading the kept part goes under a choice. -/
@[simp] theorem kept_ite (c : Prop) [Decidable c] (a b : State) :
    State.kept (if c then a else b) = if c then a.kept else b.kept := by split <;> rfl

/-- A fold of operations that keep a part of the state keeps it. -/
theorem kept_forEach {ι : Type} (l : List ι) (f : ι → State → State) (h : ∀ i t, (f i t).kept = t.kept) :
    (forEach l f s).kept = s.kept := by
  induction l generalizing s with
  | nil => rfl
  | cons a l ih => exact (ih (f a s)).trans (h a s)

/-- An operation done only for an index that exists. -/
theorem kept_elim {ι : Type} (o : Option ι) (t : State) (f : ι → State) (h : ∀ i, (f i).kept = t.kept) :
    (o.elim t f).kept = t.kept := by
  cases o with
  | none => rfl
  | some i => exact h i

end Sys2Proof.Machine
end

