-- ==== Sys2Proof/Laws/KeptOps.lean ====
section
/-! SUPPORT. One lemma per operation: it keeps the kept part of the state (Laws/Kept.lean). -/
namespace Sys2Proof.Machine

variable (s : State)

@[simp] theorem kept_offerSlotCell (oc : OutCell) : (offerSlotCell oc s).kept = s.kept := by
  unfold offerSlotCell; (try simp) <;> (repeat' split) <;> simp

@[simp] theorem kept_offerSpanCell (oc : OutCell) : (offerSpanCell oc s).kept = s.kept := by
  unfold offerSpanCell; (try simp) <;> (repeat' split) <;> simp

@[simp] theorem kept_offerCell (e : Entry) (oc : OutCell) : (offerCell e oc s).kept = s.kept := by
  cases e <;> simp [offerCell]

@[simp] theorem kept_countDiscard (e : Entry) : (countDiscard e s).kept = s.kept := by
  unfold countDiscard; (try simp) <;> (repeat' split) <;> simp

@[simp] theorem kept_offerEvent : (offerEvent s).kept = s.kept := by
  unfold offerEvent; (try simp) <;> (repeat' split) <;> simp

@[simp] theorem kept_judgeAttention : (judgeAttention s).kept = s.kept := by
  unfold judgeAttention; (try simp) <;> (repeat' split) <;> simp

@[simp] theorem kept_raise (c : Cause) : (raise c s).kept = s.kept := by
  unfold raise; (try simp) <;> (repeat' split) <;> simp

@[simp] theorem kept_offerNotice (n : Notice) (o : Option MoveId) : (offerNotice n o s).kept = s.kept := by
  unfold offerNotice; (try simp) <;> (repeat' split) <;> simp

@[simp] theorem kept_dropOwned (m : MoveId) : (dropOwned m s).kept = s.kept := by
  unfold dropOwned; (try simp) <;> (repeat' split) <;> simp

@[simp] theorem kept_offerRequest (v : Move) (k : ReqKind) (b : Bool) (o : Option MoveId) : (offerRequest v k b o s).kept = s.kept := by
  unfold offerRequest; (try simp) <;> (repeat' split) <;> simp

@[simp] theorem kept_makeRequest (m : MoveId) (k : ReqKind) (b : Bool) : (makeRequest m k b s).kept = s.kept := by
  unfold makeRequest; (try simp) <;> (repeat' split) <;> simp

@[simp] theorem kept_endRequest (m : MoveId) : (endRequest m s).kept = s.kept := by
  unfold endRequest; (try simp) <;> (repeat' split) <;> simp

@[simp] theorem kept_abandonOnce (v : Move) : (abandonOnce v s).kept = s.kept := by
  unfold abandonOnce; (try simp) <;> (repeat' split) <;> simp

@[simp] theorem kept_answer (n : Notice) (k : ReqKind) : (answer n k s).kept = s.kept := by
  unfold answer; (try simp) <;> (repeat' split) <;> simp

@[simp] theorem kept_refuse (n : Notice) (r : RefuseReason) (k : ReqKind) : (refuse n r k s).kept = s.kept := by
  unfold refuse; (try simp) <;> (repeat' split) <;> simp

@[simp] theorem kept_judgeHoldOff : (judgeHoldOff s).kept = s.kept := by
  unfold judgeHoldOff; (try simp) <;> (repeat' split) <;> simp

@[simp] theorem kept_setMoveState (c : CircuitId) (st : MoveState) : (setMoveState c st s).kept = s.kept := by
  unfold setMoveState; (try simp) <;> (repeat' split) <;> simp

@[simp] theorem kept_rollDecision (m : MoveId) : (rollDecision m s).kept = s.kept := by
  unfold rollDecision; (try simp) <;> (repeat' split) <;> simp

@[simp] theorem kept_awaitRoll (m : MoveId) : (awaitRoll m s).kept = s.kept := by
  unfold awaitRoll; (try simp) <;> (repeat' split) <;> simp

@[simp] theorem kept_giveIdleRoll (m : MoveId) : (giveIdleRoll m s).kept = s.kept := by
  unfold giveIdleRoll; (try simp) <;> (repeat' split) <;> simp

@[simp] theorem kept_giveRescue (m : MoveId) : (giveRescue m s).kept = s.kept := by
  unfold giveRescue; (try simp) <;> (repeat' split) <;> simp

@[simp] theorem kept_withdrawIdleRoll (m : MoveId) : (withdrawIdleRoll m s).kept = s.kept := by
  unfold withdrawIdleRoll; (try simp) <;> (repeat' split) <;> simp

@[simp] theorem kept_enterBridged (m : MoveId) : (enterBridged m s).kept = s.kept := by
  unfold enterBridged; (try simp) <;> (repeat' split) <;> simp

@[simp] theorem kept_returnToBridged (m : MoveId) : (returnToBridged m s).kept = s.kept := by
  unfold returnToBridged; (try simp) <;> (repeat' split) <;> simp

@[simp] theorem kept_leaveAlign (c : CircuitId) : (leaveAlign c s).kept = s.kept := by
  unfold leaveAlign; (try simp) <;> (repeat' split) <;> simp

@[simp] theorem kept_judgeCall (c : CircuitId) : (judgeCall c s).kept = s.kept := by
  unfold judgeCall; (try simp) <;> (repeat' split) <;> simp

@[simp] theorem kept_observeForward (c : CircuitId) (x : Code) : (observeForward c x s).kept = s.kept := by
  unfold observeForward; (try simp) <;> (repeat' split) <;> simp

@[simp] theorem kept_observeCopper (c : CircuitId) (x : Code) : (observeCopper c x s).kept = s.kept := by
  unfold observeCopper; (try simp) <;> (repeat' split) <;> simp

@[simp] theorem kept_observeSpan (c : CircuitId) (w : Word16) (x : Code) : (observeSpan c w x s).kept = s.kept := by
  unfold observeSpan; (try simp) <;> (repeat' split) <;> simp

@[simp] theorem kept_restartSpanBackward (c : CircuitId) : (restartSpanBackward c s).kept = s.kept := by
  unfold restartSpanBackward; (try simp) <;> (repeat' split) <;> simp

@[simp] theorem kept_conditionCopper (k : TrunkId) : (conditionCopper k s).kept = s.kept := by
  unfold conditionCopper; (try simp) <;> (repeat' split) <;> simp

@[simp] theorem kept_uncondCopper (k : TrunkId) : (uncondCopper k s).kept = s.kept := by
  unfold uncondCopper; (try simp) <;> (repeat' split) <;> simp

@[simp] theorem kept_conditionSpan : (conditionSpan s).kept = s.kept := by
  unfold conditionSpan; (try simp) <;> (repeat' split) <;> simp

@[simp] theorem kept_startRestore : (startRestore s).kept = s.kept := by
  unfold startRestore; (try simp) <;> (repeat' split) <;> simp

@[simp] theorem kept_selectPath (c : CircuitId) (p : Path) (h : Change) : (selectPath c p h s).kept = s.kept := by
  unfold selectPath; (try simp) <;> (repeat' split) <;> simp

@[simp] theorem kept_modOrder (n : Byte) (f : Order → Order) : (s.modOrder n f).kept = s.kept := rfl

@[simp] theorem kept_passTurnFrom (n : Byte) : (passTurnFrom n s).kept = s.kept := by
  unfold passTurnFrom; (try simp) <;> (repeat' split) <;> simp

@[simp] theorem kept_takeTurn (n : Byte) : (takeTurn n s).kept = s.kept := by
  unfold takeTurn; (try simp) <;> (repeat' split) <;> simp

@[simp] theorem kept_endOrder (n : Byte) (st : OrderState) : (endOrder n st s).kept = s.kept := by
  unfold endOrder; (try simp) <;> (repeat' split) <;> simp

@[simp] theorem kept_judgeOrder (n : Byte) : (judgeOrder n s).kept = s.kept := by
  unfold judgeOrder; (try simp) <;> (repeat' split) <;> simp

@[simp] theorem kept_closeOrder (n : Byte) (cl : Closing) : (closeOrder n cl s).kept = s.kept := by
  unfold closeOrder; (try simp) <;> (repeat' split) <;> simp

@[simp] theorem kept_setEntry (n : Byte) (c : CircuitId) (st : EntryState) : (setEntry n c st s).kept = s.kept := by
  unfold setEntry; (try simp) <;> (repeat' split) <;> simp

@[simp] theorem kept_moveEnded (n : Option Byte) (c : CircuitId) (b : Bool) : (moveEnded n c b s).kept = s.kept := by
  unfold moveEnded; (try simp) <;> (repeat' split) <;> simp

@[simp] theorem kept_takeSlot (m : MoveId) (c : CircuitId) (r : Role) (k : MoveKind) (d : Dir) (p : Option Word16) (o : Option Byte) : (takeSlot m c r k d p o s).kept = s.kept := rfl

@[simp] theorem kept_freeSlot (m : MoveId) : (freeSlot m s).kept = s.kept := rfl

@[simp] theorem kept_writeFault (c : CircuitId) (f : FaultCode) : (writeFault c f s).kept = s.kept := by
  unfold writeFault; (try simp) <;> (repeat' split) <;> simp

@[simp] theorem kept_failFault (c : CircuitId) (f : FaultCode) : (failFault c f s).kept = s.kept := by
  unfold failFault; (try simp) <;> (repeat' split) <;> simp

@[simp] theorem kept_endMove (m : MoveId) (r : MoveState) (h : Change) (b : Bool) : (endMove m r h b s).kept = s.kept := by
  unfold endMove; (try simp) <;> (repeat' split) <;> simp

@[simp] theorem kept_completeMove (m : MoveId) (r : MoveResult) : (completeMove m r s).kept = s.kept := by
  unfold completeMove; (try simp) <;> (repeat' split) <;> simp

@[simp] theorem kept_swapPaths (c : CircuitId) (d : Dir) : (swapPaths c d s).kept = s.kept := by
  unfold swapPaths; (try simp) <;> (repeat' split) <;> simp

@[simp] theorem kept_initiatorSwap (m : MoveId) (b : Bool) : (initiatorSwap m b s).kept = s.kept := by
  unfold initiatorSwap; (try simp) <;> (repeat' split) <;> simp

@[simp] theorem kept_undoMove (m : MoveId) (f : FaultCode) (a b : Bool) : (undoMove m f a b s).kept = s.kept := by
  unfold undoMove; (try simp) <;> (repeat' split) <;> simp

@[simp] theorem kept_failHitless (m : MoveId) (f : FaultCode) : (failHitless m f s).kept = s.kept := by
  unfold failHitless; (try simp) <;> (repeat' split) <;> simp

@[simp] theorem kept_finishAbandon (m : MoveId) : (finishAbandon m s).kept = s.kept := by
  unfold finishAbandon; (try simp) <;> (repeat' split) <;> simp

@[simp] theorem kept_releaseMove (m : MoveId) : (releaseMove m s).kept = s.kept := by
  unfold releaseMove; (try simp) <;> (repeat' split) <;> simp

@[simp] theorem kept_beginMove (m : MoveId) (c : CircuitId) (d : Dir) (o : Option Byte) : (beginMove m c d o s).kept = s.kept := by
  unfold beginMove; (try simp) <;> (repeat' split) <;> simp

@[simp] theorem kept_makeRoll (m : MoveId) (k : RollKind) : (makeRoll m k s).kept = s.kept := by
  unfold makeRoll; (try simp) <;> (repeat' split) <;> simp

@[simp] theorem kept_startSoak (m : MoveId) : (startSoak m s).kept = s.kept := by
  unfold startSoak; (try simp) <;> (repeat' split) <;> simp

@[simp] theorem kept_copperLostMove (m : MoveId) : (copperLostMove m s).kept = s.kept := by
  unfold copperLostMove; (try simp) <;> (repeat' split) <;> simp

@[simp] theorem kept_copperLostMoves (k : TrunkId) : (copperLostMoves k s).kept = s.kept := by
  unfold copperLostMoves; (try simp [kept_forEach]) <;> (repeat' split) <;> simp [kept_forEach]

@[simp] theorem kept_fallBackMove (m : MoveId) : (fallBackMove m s).kept = s.kept := by
  unfold fallBackMove; (try simp) <;> (repeat' split) <;> simp

@[simp] theorem kept_fallBack : (fallBack s).kept = s.kept := by
  unfold fallBack; (try simp [kept_forEach]) <;> (repeat' split) <;> simp [kept_forEach]

@[simp] theorem kept_grantCorrelator : (grantCorrelator s).kept = s.kept := by
  unfold grantCorrelator; (try simp) <;> (repeat' split) <;> simp

@[simp] theorem kept_confirmLag (c : CircuitId) (l : Int) : (confirmLag c l s).kept = s.kept := by
  unfold confirmLag; (try simp) <;> (repeat' split) <;> simp

@[simp] theorem kept_failMeasured (c : CircuitId) (f : FaultCode) : (failMeasured c f s).kept = s.kept := by
  unfold failMeasured; (try simp) <;> (repeat' split) <;> simp

@[simp] theorem kept_modCorr (i : CorrId) (f : Measure → Measure) : (s.modCorr i f).kept = s.kept := rfl

@[simp] theorem kept_applyWindow (i : CorrId) (x : Measure) (r : WindowResult) : (applyWindow i x r s).kept = s.kept := by
  unfold applyWindow; (try simp) <;> (repeat' split) <;> simp

@[simp] theorem kept_evaluateWindow (i : CorrId) : (evaluateWindow i s).kept = s.kept := by
  unfold evaluateWindow; (try simp) <;> (repeat' split) <;> simp

@[simp] theorem kept_timeOutMeasurement (i : CorrId) : (timeOutMeasurement i s).kept = s.kept := by
  unfold timeOutMeasurement; (try simp) <;> (repeat' split) <;> simp

@[simp] theorem kept_testQuiet (m : MoveId) : (testQuiet m s).kept = s.kept := by
  unfold testQuiet; (try simp) <;> (repeat' split) <;> simp

@[simp] theorem kept_makeDueRoll (m : MoveId) : (makeDueRoll m s).kept = s.kept := by
  unfold makeDueRoll; (try simp) <;> (repeat' split) <;> simp

@[simp] theorem kept_restartMeasure (c : CircuitId) (f : Frame) : (restartMeasure c f s).kept = s.kept := by
  unfold restartMeasure; (try simp) <;> (repeat' split) <;> simp

@[simp] theorem kept_slipMove (f : Frame) (m : MoveId) : (slipMove f m s).kept = s.kept := by
  unfold slipMove; (try simp) <;> (repeat' split) <;> simp

@[simp] theorem kept_copperSlip (k : TrunkId) (f : Frame) : (copperSlip k f s).kept = s.kept := by
  unfold copperSlip; (try simp [kept_forEach]) <;> (repeat' split) <;> simp [kept_forEach]

@[simp] theorem kept_spanSlip (f : Frame) : (spanSlip f s).kept = s.kept := by
  unfold spanSlip; (try simp [kept_forEach]) <;> (repeat' split) <;> simp [kept_forEach]

@[simp] theorem kept_countStale : (countStale s).kept = s.kept := by
  unfold countStale; (try simp) <;> (repeat' split) <;> simp

@[simp] theorem kept_blockedAnswered (m : MoveId) : (blockedAnswered m s).kept = s.kept := by
  unfold blockedAnswered; (try simp) <;> (repeat' split) <;> simp

@[simp] theorem kept_swappedAnswered (m : MoveId) : (swappedAnswered m s).kept = s.kept := by
  unfold swappedAnswered; (try simp) <;> (repeat' split) <;> simp

@[simp] theorem kept_bridgedAnswered (m : MoveId) : (bridgedAnswered m s).kept = s.kept := by
  unfold bridgedAnswered; (try simp) <;> (repeat' split) <;> simp

@[simp] theorem kept_notedAnswered (m : MoveId) : (notedAnswered m s).kept = s.kept := by
  unfold notedAnswered; (try simp) <;> (repeat' split) <;> simp

@[simp] theorem kept_releasedAnswered (m : MoveId) : (releasedAnswered m s).kept = s.kept := by
  unfold releasedAnswered; (try simp) <;> (repeat' split) <;> simp

@[simp] theorem kept_abandonedAnswered (m : MoveId) : (abandonedAnswered m s).kept = s.kept := by
  unfold abandonedAnswered; (try simp) <;> (repeat' split) <;> simp

@[simp] theorem kept_refusedAnswered (m : MoveId) (r : RefuseReason) (k : ReqKind) : (refusedAnswered m r k s).kept = s.kept := by
  unfold refusedAnswered; (try simp) <;> (repeat' split) <;> simp

@[simp] theorem kept_handleAnswer (n : Notice) (k : ReqKind) : (handleAnswer n k s).kept = s.kept := by
  unfold handleAnswer; (try simp) <;> (repeat' split) <;> simp

@[simp] theorem kept_handleRefuse (n : Notice) (r : RefuseReason) (k : ReqKind) : (handleRefuse n r k s).kept = s.kept := by
  unfold handleRefuse; (try simp) <;> (repeat' split) <;> simp

@[simp] theorem kept_acceptBlock (m : MoveId) (c : CircuitId) (n : Notice) : (acceptBlock m c n s).kept = s.kept := by
  unfold acceptBlock; (try simp) <;> (repeat' split) <;> simp

@[simp] theorem kept_acceptBridge (m : MoveId) (c : CircuitId) (n : Notice) : (acceptBridge m c n s).kept = s.kept := by
  unfold acceptBridge; (try simp) <;> (repeat' split) <;> simp

@[simp] theorem kept_blockAtRest (n : Notice) (c : CircuitId) : (blockAtRest n c s).kept = s.kept := by
  unfold blockAtRest; (try simp) <;> (repeat' split) <;> simp

@[simp] theorem kept_bridgeAtRest (n : Notice) (c : CircuitId) : (bridgeAtRest n c s).kept = s.kept := by
  unfold bridgeAtRest; (try simp) <;> (repeat' split) <;> simp

@[simp] theorem kept_swapAtRest (n : Notice) (c : CircuitId) : (swapAtRest n c s).kept = s.kept := by
  unfold swapAtRest; (try simp) <;> (repeat' split) <;> simp

@[simp] theorem kept_requestAtRest (n : Notice) (k : ReqKind) (c : CircuitId) : (requestAtRest n k c s).kept = s.kept := by
  unfold requestAtRest; (try simp) <;> (repeat' split) <;> simp

@[simp] theorem kept_recordPeerTag (m : MoveId) (t : Word16) : (recordPeerTag m t s).kept = s.kept := by
  unfold recordPeerTag; (try simp) <;> (repeat' split) <;> simp

@[simp] theorem kept_swapInBlocking (m : MoveId) (v : Move) (n : Notice) : (swapInBlocking m v n s).kept = s.kept := by
  unfold swapInBlocking; (try simp) <;> (repeat' split) <;> simp

@[simp] theorem kept_rolledInFlight (m : MoveId) (v : Move) (n : Notice) : (rolledInFlight m v n s).kept = s.kept := by
  unfold rolledInFlight; (try simp) <;> (repeat' split) <;> simp

@[simp] theorem kept_undoRequest (v : Move) (k : ReqKind) : (undoRequest v k s).kept = s.kept := by
  unfold undoRequest; (try simp) <;> (repeat' split) <;> simp

@[simp] theorem kept_retire (m : MoveId) (v : Move) (o : ReqKind) (n : Notice) (k : ReqKind) : (retire m v o n k s).kept = s.kept := by
  unfold retire; (try simp) <;> (repeat' split) <;> simp

@[simp] theorem kept_crossing (m : MoveId) (v : Move) (n : Notice) (k : ReqKind) : (crossing m v n k s).kept = s.kept := by
  unfold crossing; (try simp) <;> (repeat' split) <;> simp

@[simp] theorem kept_abandonInFlight (m : MoveId) (v : Move) (n : Notice) : (abandonInFlight m v n s).kept = s.kept := by
  unfold abandonInFlight; (try simp) <;> (repeat' split) <;> simp

@[simp] theorem kept_requestInFlight (m : MoveId) (v : Move) (n : Notice) (k : ReqKind) : (requestInFlight m v n k s).kept = s.kept := by
  unfold requestInFlight; (try simp) <;> (repeat' split) <;> simp

@[simp] theorem kept_handleRequest (n : Notice) (k : ReqKind) : (handleRequest n k s).kept = s.kept := by
  unfold handleRequest; (try simp) <;> (repeat' split) <;> simp

@[simp] theorem kept_handleNotice (n : Notice) : (handleNotice n s).kept = s.kept := by
  unfold handleNotice; (try simp) <;> (repeat' split) <;> simp

@[simp] theorem kept_takeNotice (p : Notice → Bool) : (takeNotice p s).kept = s.kept := by
  unfold takeNotice; (try simp) <;> (repeat' split) <;> simp

@[simp] theorem kept_completeProxy (x : Byte) (b : List Byte) : (completeProxy x b s).kept = s.kept := by
  unfold completeProxy; (try simp) <;> (repeat' split) <;> simp

@[simp] theorem kept_refuseProxy (r : Reason) : (refuseProxy r s).kept = s.kept := by
  unfold refuseProxy; (try simp) <;> (repeat' split) <;> simp

@[simp] theorem kept_respond (e : Entry) (t g : Byte) (r : Reply) : (respond e t g r s).kept = s.kept := by
  unfold respond; (try simp) <;> (repeat' split) <;> simp

@[simp] theorem kept_interruptForward (k : TrunkId) : (interruptForward k s).kept = s.kept := by
  unfold interruptForward; (try simp) <;> (repeat' split) <;> simp

@[simp] theorem kept_interruptCopper (k : TrunkId) : (interruptCopper k s).kept = s.kept := by
  unfold interruptCopper; (try simp) <;> (repeat' split) <;> simp

@[simp] theorem kept_restartSettle (k : TrunkId) : (restartSettle k s).kept = s.kept := by
  unfold restartSettle; apply kept_modTrunk; intro t; split <;> rfl

@[simp] theorem kept_loseReference : (loseReference s).kept = s.kept := rfl

@[simp] theorem kept_availableFell (p : PortId) : (availableFell p s).kept = s.kept := by
  unfold availableFell; (try simp) <;> (repeat' split) <;> simp

@[simp] theorem kept_availableRose (p : PortId) : (availableRose p s).kept = s.kept := by
  unfold availableRose; (try simp) <;> (repeat' split) <;> simp

@[simp] theorem kept_refreshAvailable (p : PortId) : (refreshAvailable p s).kept = s.kept := by
  unfold refreshAvailable; (try simp) <;> (repeat' split) <;> simp

@[simp] theorem kept_countPortSlip (p : PortId) : (countPortSlip p s).kept = s.kept := by
  unfold countPortSlip; (try simp) <;> (repeat' split) <;> simp

@[simp] theorem kept_repeatPort (p : PortId) : (repeatPort p s).kept = s.kept := by
  unfold repeatPort; (try simp) <;> (repeat' split) <;> simp

@[simp] theorem kept_writePort (p : PortId) (f : StoredFrame) : (writePort p f s).kept = s.kept := by
  unfold writePort; (try simp) <;> (repeat' split) <;> simp

@[simp] theorem kept_readPort (p : PortId) : (readPort p s).kept = s.kept := by
  unfold readPort; (try simp) <;> (repeat' split) <;> simp

@[simp] theorem kept_handCodes (p : PortId) (l : List Byte) : (handCodes p l s).kept = s.kept := by
  unfold handCodes; (repeat' split) <;> first | exact kept_forEach _ _ _ fun i t => kept_elim _ _ _ fun c => by simp | rfl

@[simp] theorem kept_enterAligned (p : PortId) (l : List Bool) : (enterAligned p l s).kept = s.kept := by
  unfold enterAligned; (try simp) <;> (repeat' split) <;> simp

@[simp] theorem kept_leaveAligned (p : PortId) (l : List Bool) : (leaveAligned p l s).kept = s.kept := by
  unfold leaveAligned; (try simp) <;> (repeat' split) <;> simp

@[simp] theorem kept_portFrame (p : PortId) (b : Bool) (l : List Byte) : (portFrame p b l s).kept = s.kept := by
  unfold portFrame; (try simp) <;> (repeat' split) <;> simp

@[simp] theorem kept_portLoop (p : PortId) (b : Bool) (n : Nat) : (portLoop p b n s).kept = s.kept := by
  induction n generalizing s with
  | zero => rfl
  | succ n ih => unfold portLoop; (try simp [ih]) <;> (repeat' split) <;> simp [ih]

@[simp] theorem kept_receivePort (p : PortId) (l : List Byte) : (receivePort p l s).kept = s.kept := by
  unfold receivePort; (try simp) <;> (repeat' split) <;> simp

@[simp] theorem kept_evaluatePortLos (p : PortId) (b : Bool) : (evaluatePortLos p b s).kept = s.kept := by
  unfold evaluatePortLos; (try simp) <;> (repeat' split) <;> simp

@[simp] theorem kept_emptyQueues : (emptyQueues s).kept = s.kept := by
  unfold emptyQueues; (try simp) <;> (repeat' split) <;> simp

@[simp] theorem kept_usableRose : (usableRose s).kept = s.kept := by
  unfold usableRose; (try simp) <;> (repeat' split) <;> simp

@[simp] theorem kept_usableFell : (usableFell s).kept = s.kept := by
  unfold usableFell; (try simp) <;> (repeat' split) <;> simp

@[simp] theorem kept_refreshUsable : (refreshUsable s).kept = s.kept := by
  unfold refreshUsable; (try simp) <;> (repeat' split) <;> simp

@[simp] theorem kept_countUnlessRestart (e : Entry) : (countUnlessRestart e s).kept = s.kept := by
  unfold countUnlessRestart; (try simp) <;> (repeat' split) <;> simp

@[simp] theorem kept_addPiece (a : SpanAsm) (r : Nat) (b : Bool) (l : List Byte) : (addPiece a r b l s).kept = s.kept := by
  unfold addPiece; (try simp) <;> (repeat' split) <;> simp

@[simp] theorem kept_placePiece (w : Word16) (b : Bool) (l : List Byte) : (placePiece w b l s).kept = s.kept := by
  unfold placePiece; (try simp) <;> (repeat' split) <;> simp

@[simp] theorem kept_leaveSpan (l : List Bool) : (leaveSpan l s).kept = s.kept := by
  unfold leaveSpan; (try simp) <;> (repeat' split) <;> simp

@[simp] theorem kept_evaluateSpanLos (b : Bool) : (evaluateSpanLos b s).kept = s.kept := by
  unfold evaluateSpanLos; (try simp) <;> (repeat' split) <;> simp

@[simp] theorem kept_countSpanSlip : (countSpanSlip s).kept = s.kept := by
  unfold countSpanSlip; (try simp) <;> (repeat' split) <;> simp

@[simp] theorem kept_writeSpan (o : SpanOctets) : (writeSpan o s).kept = s.kept := by
  unfold writeSpan; (try simp) <;> (repeat' split) <;> simp

@[simp] theorem kept_readSpan : (readSpan s).kept = s.kept := by
  unfold readSpan; (try simp) <;> (repeat' split) <;> simp

@[simp] theorem kept_takeErrored : (takeErrored s).kept = s.kept := by
  unfold takeErrored; (try simp) <;> (repeat' split) <;> simp

@[simp] theorem kept_takeStatus (w : Word16) (b : Byte) : (takeStatus w b s).kept = s.kept := by
  unfold takeStatus; (try simp) <;> (repeat' split) <;> simp

@[simp] theorem kept_takePosition (l : List Byte) : (takePosition l s).kept = s.kept := by
  unfold takePosition; (try simp) <;> (repeat' split) <;> simp

@[simp] theorem kept_handSpanCodes (w : Word16) (l : List Byte) : (handSpanCodes w l s).kept = s.kept := by
  unfold handSpanCodes; (repeat' split) <;> first | exact kept_forEach _ _ _ fun i t => kept_elim _ _ _ fun c => by simp | rfl

@[simp] theorem kept_takeSpanFrame (l : List Byte) : (takeSpanFrame l s).kept = s.kept := by
  unfold takeSpanFrame; (try simp) <;> (repeat' split) <;> simp

@[simp] theorem kept_spanFrame (l : List Byte) : (spanFrame l s).kept = s.kept := by
  unfold spanFrame; (try simp) <;> (repeat' split) <;> simp

@[simp] theorem kept_enterSpan (l : List Bool) : (enterSpan l s).kept = s.kept := by
  unfold enterSpan; (try simp) <;> (repeat' split) <;> simp

@[simp] theorem kept_spanLoop (n : Nat) : (spanLoop n s).kept = s.kept := by
  induction n generalizing s with
  | zero => rfl
  | succ n ih => unfold spanLoop; (try simp [ih]) <;> (repeat' split) <;> simp [ih]

@[simp] theorem kept_receiveSpan (l : List Byte) : (receiveSpan l s).kept = s.kept := by
  unfold receiveSpan; (try simp) <;> (repeat' split) <;> simp

@[simp] theorem kept_endDegradeInterval : (endDegradeInterval s).kept = s.kept := by
  unfold endDegradeInterval; (try simp) <;> (repeat' split) <;> simp

@[simp] theorem kept_openSlotEntry : (openSlotEntry s).kept = s.kept := by
  unfold openSlotEntry; (try simp) <;> (repeat' split) <;> simp

@[simp] theorem kept_lockTiming : (lockTiming s).kept = s.kept := by
  unfold lockTiming; split <;> rfl

@[simp] theorem kept_completeRestore (c : CircuitId) : (completeRestore c s).kept = s.kept := by
  unfold completeRestore; (try simp) <;> (repeat' split) <;> simp

@[simp] theorem kept_endFreeze (c : CircuitId) : (endFreeze c s).kept = s.kept := by
  unfold endFreeze; (try simp) <;> (repeat' split) <;> simp

@[simp] theorem kept_exhaustTries (m : MoveId) (k : ReqKind) : (exhaustTries m k s).kept = s.kept := by
  unfold exhaustTries; (try simp) <;> (repeat' split) <;> simp

@[simp] theorem kept_repeatRequest (m : MoveId) : (repeatRequest m s).kept = s.kept := by
  unfold repeatRequest; (try simp) <;> (repeat' split) <;> simp

@[simp] theorem kept_expireProgress (m : MoveId) : (expireProgress m s).kept = s.kept := by
  unfold expireProgress; (try simp) <;> (repeat' split) <;> simp

@[simp] theorem kept_expireQuiet (m : MoveId) : (expireQuiet m s).kept = s.kept := by
  unfold expireQuiet; (try simp) <;> (repeat' split) <;> simp

@[simp] theorem kept_expireValidity (m : MoveId) : (expireValidity m s).kept = s.kept := by
  unfold expireValidity; (try simp) <;> (repeat' split) <;> simp

@[simp] theorem kept_expireSoak (m : MoveId) : (expireSoak m s).kept = s.kept := by
  unfold expireSoak; (try simp) <;> (repeat' split) <;> simp

@[simp] theorem kept_expireDeadline (n : Byte) : (expireDeadline n s).kept = s.kept := by
  unfold expireDeadline; (try simp) <;> (repeat' split) <;> simp

@[simp] theorem kept_expireProxy : (expireProxy s).kept = s.kept := by
  unfold expireProxy; (try simp) <;> (repeat' split) <;> simp

@[simp] theorem kept_promoteOne : (promoteOne s).kept = s.kept := by
  unfold promoteOne; (try simp) <;> (repeat' split) <;> simp

@[simp] theorem kept_promotionPart : (promotionPart s).kept = s.kept := by
  unfold promotionPart; (try simp) <;> (repeat' split) <;> simp

@[simp] theorem kept_resolveEntry (n : Byte) (d : Dir) (c : CircuitId) : (resolveEntry n d c s).kept = s.kept := by
  unfold resolveEntry; (try simp) <;> (repeat' split) <;> simp

@[simp] theorem kept_resolveOrder (n : Byte) : (resolveOrder n s).kept = s.kept := by
  unfold resolveOrder; (try simp [kept_forEach]) <;> (repeat' split) <;> simp [kept_forEach]

@[simp] theorem kept_resolutionPart : (resolutionPart s).kept = s.kept := by
  unfold resolutionPart; (try simp [kept_forEach]) <;> (repeat' split) <;> simp [kept_forEach]

@[simp] theorem kept_passTurn : (passTurn s).kept = s.kept := by
  unfold passTurn; (try simp) <;> (repeat' split) <;> simp

@[simp] theorem kept_admitInto (m : MoveId) (n : Byte) (d : Dir) (c : CircuitId) : (admitInto m n d c s).kept = s.kept := by
  unfold admitInto; (try simp) <;> (repeat' split) <;> simp

@[simp] theorem kept_grantLoop (f k : Nat) : (grantLoop f k s).kept = s.kept := by
  induction f generalizing s k with
  | zero => rfl
  | succ f ih => unfold grantLoop; (repeat' split) <;> simp [ih]

@[simp] theorem kept_grantPart : (grantPart s).kept = s.kept := by
  unfold grantPart; (try simp) <;> (repeat' split) <;> simp

@[simp] theorem kept_clearGroup (g : Byte) : (clearGroup g s).kept = s.kept := by
  unfold clearGroup; split <;> rfl

@[simp] theorem kept_endSlotCell : (endSlotCell s).kept = s.kept := by
  unfold endSlotCell; (try simp) <;> (repeat' split) <;> simp

@[simp] theorem kept_takeResponse (t x : Byte) (b : List Byte) : (takeResponse t x b s).kept = s.kept := by
  unfold takeResponse; (try simp) <;> (repeat' split) <;> simp

@[simp] theorem kept_forwardRequest (t c : Byte) (b : List Byte) : (forwardRequest t c b s).kept = s.kept := by
  unfold forwardRequest; (try simp) <;> (repeat' split) <;> simp

end Sys2Proof.Machine
end

