-- ==== Sys2Proof/Laws/Frames.lean ====
section
/-! SUPPORT. One lemma per operation: the blocks of State that it leaves alone. Simp reads each lemma as its equations. -/
namespace Sys2Proof.Machine

/-- A fold of operations that leave a part of the state alone leaves it alone. -/
theorem part_forEach {ι β : Type} (g : State → β) (l : List ι) (f : ι → State → State) (s : State)
    (h : ∀ i t, g (f i t) = g t) : g (forEach l f s) = g s := by
  induction l generalizing s with
  | nil => rfl
  | cons a l ih => exact (ih (f a s)).trans (h a s)

/-- An operation done only for an index that exists. -/
theorem part_elim {ι β : Type} (g : State → β) (o : Option ι) (t : State) (f : ι → State) (h : ∀ i, g (f i) = g t) :
    g (o.elim t f) = g t := by
  cases o with
  | none => rfl
  | some i => exact h i

/-! Reading a block goes under a choice. -/

@[simp] theorem ite_dev (c : Prop) [Decidable c] (a b : State) :
    State.dev (if c then a else b) = if c then a.dev else b.dev := by split <;> rfl
@[simp] theorem ite_timing (c : Prop) [Decidable c] (a b : State) :
    State.timing (if c then a else b) = if c then a.timing else b.timing := by split <;> rfl
@[simp] theorem ite_params (c : Prop) [Decidable c] (a b : State) :
    State.params (if c then a else b) = if c then a.params else b.params := by split <;> rfl
@[simp] theorem ite_trunks (c : Prop) [Decidable c] (a b : State) :
    State.trunks (if c then a else b) = if c then a.trunks else b.trunks := by split <;> rfl
@[simp] theorem ite_sw (c : Prop) [Decidable c] (a b : State) :
    State.sw (if c then a else b) = if c then a.sw else b.sw := by split <;> rfl
@[simp] theorem ite_line (c : Prop) [Decidable c] (a b : State) :
    State.line (if c then a else b) = if c then a.line else b.line := by split <;> rfl
@[simp] theorem ite_span (c : Prop) [Decidable c] (a b : State) :
    State.span (if c then a else b) = if c then a.span else b.span := by split <;> rfl
@[simp] theorem ite_map (c : Prop) [Decidable c] (a b : State) :
    State.map (if c then a else b) = if c then a.map else b.map := by split <;> rfl
@[simp] theorem ite_circuits (c : Prop) [Decidable c] (a b : State) :
    State.circuits (if c then a else b) = if c then a.circuits else b.circuits := by split <;> rfl
@[simp] theorem ite_moves (c : Prop) [Decidable c] (a b : State) :
    State.moves (if c then a else b) = if c then a.moves else b.moves := by split <;> rfl
@[simp] theorem ite_align (c : Prop) [Decidable c] (a b : State) :
    State.align (if c then a else b) = if c then a.align else b.align := by split <;> rfl
@[simp] theorem ite_orders (c : Prop) [Decidable c] (a b : State) :
    State.orders (if c then a else b) = if c then a.orders else b.orders := by split <;> rfl
@[simp] theorem ite_link (c : Prop) [Decidable c] (a b : State) :
    State.link (if c then a else b) = if c then a.link else b.link := by split <;> rfl
@[simp] theorem ite_mgmt (c : Prop) [Decidable c] (a b : State) :
    State.mgmt (if c then a else b) = if c then a.mgmt else b.mgmt := by split <;> rfl
@[simp] theorem ite_tx (c : Prop) [Decidable c] (a b : State) :
    State.tx (if c then a else b) = if c then a.tx else b.tx := by split <;> rfl
@[simp] theorem ite_pending (c : Prop) [Decidable c] (a b : State) :
    State.pending (if c then a else b) = if c then a.pending else b.pending := by split <;> rfl

variable (s : State)

@[simp] theorem frame_offerSlotCell (oc : OutCell) :
    (offerSlotCell oc s).dev = s.dev ∧ (offerSlotCell oc s).timing = s.timing ∧
    (offerSlotCell oc s).params = s.params ∧ (offerSlotCell oc s).trunks = s.trunks ∧
    (offerSlotCell oc s).sw = s.sw ∧ (offerSlotCell oc s).line = s.line ∧ (offerSlotCell oc s).span = s.span ∧
    (offerSlotCell oc s).map = s.map ∧ (offerSlotCell oc s).circuits = s.circuits ∧
    (offerSlotCell oc s).moves = s.moves ∧ (offerSlotCell oc s).align = s.align ∧
    (offerSlotCell oc s).orders = s.orders ∧ (offerSlotCell oc s).link = s.link ∧ (offerSlotCell oc s).tx = s.tx ∧
    (offerSlotCell oc s).pending = s.pending := by
  repeat' apply And.intro
  all_goals
    unfold offerSlotCell
    (try simp) <;> (repeat' split) <;> first | (simp; done) | (with_reducible rfl)

@[simp] theorem frame_offerSpanCell (oc : OutCell) :
    (offerSpanCell oc s).dev = s.dev ∧ (offerSpanCell oc s).timing = s.timing ∧
    (offerSpanCell oc s).params = s.params ∧ (offerSpanCell oc s).trunks = s.trunks ∧
    (offerSpanCell oc s).sw = s.sw ∧ (offerSpanCell oc s).line = s.line ∧ (offerSpanCell oc s).span = s.span ∧
    (offerSpanCell oc s).map = s.map ∧ (offerSpanCell oc s).circuits = s.circuits ∧
    (offerSpanCell oc s).moves = s.moves ∧ (offerSpanCell oc s).align = s.align ∧
    (offerSpanCell oc s).orders = s.orders ∧ (offerSpanCell oc s).link = s.link ∧ (offerSpanCell oc s).tx = s.tx ∧
    (offerSpanCell oc s).pending = s.pending := by
  repeat' apply And.intro
  all_goals
    unfold offerSpanCell
    (try simp) <;> (repeat' split) <;> first | (simp; done) | (with_reducible rfl)

@[simp] theorem frame_offerCell (e : Entry) (oc : OutCell) :
    (offerCell e oc s).dev = s.dev ∧ (offerCell e oc s).timing = s.timing ∧ (offerCell e oc s).params = s.params ∧
    (offerCell e oc s).trunks = s.trunks ∧ (offerCell e oc s).sw = s.sw ∧ (offerCell e oc s).line = s.line ∧
    (offerCell e oc s).span = s.span ∧ (offerCell e oc s).map = s.map ∧ (offerCell e oc s).circuits = s.circuits ∧
    (offerCell e oc s).moves = s.moves ∧ (offerCell e oc s).align = s.align ∧ (offerCell e oc s).orders = s.orders ∧
    (offerCell e oc s).link = s.link ∧ (offerCell e oc s).tx = s.tx ∧ (offerCell e oc s).pending = s.pending := by
  repeat' apply And.intro
  all_goals
    unfold offerCell
    (try simp) <;> (repeat' split) <;> first | (simp; done) | (with_reducible rfl)

@[simp] theorem frame_countDiscard (e : Entry) :
    (countDiscard e s).dev = s.dev ∧ (countDiscard e s).timing = s.timing ∧ (countDiscard e s).params = s.params ∧
    (countDiscard e s).trunks = s.trunks ∧ (countDiscard e s).sw = s.sw ∧ (countDiscard e s).line = s.line ∧
    (countDiscard e s).span = s.span ∧ (countDiscard e s).map = s.map ∧ (countDiscard e s).circuits = s.circuits ∧
    (countDiscard e s).moves = s.moves ∧ (countDiscard e s).align = s.align ∧ (countDiscard e s).orders = s.orders ∧
    (countDiscard e s).link = s.link ∧ (countDiscard e s).tx = s.tx ∧ (countDiscard e s).pending = s.pending := by
  repeat' apply And.intro
  all_goals
    unfold countDiscard
    (try simp) <;> (repeat' split) <;> first | (simp; done) | (with_reducible rfl)

@[simp] theorem frame_offerEvent :
    (offerEvent s).dev = s.dev ∧ (offerEvent s).timing = s.timing ∧ (offerEvent s).params = s.params ∧
    (offerEvent s).trunks = s.trunks ∧ (offerEvent s).sw = s.sw ∧ (offerEvent s).line = s.line ∧
    (offerEvent s).span = s.span ∧ (offerEvent s).map = s.map ∧ (offerEvent s).circuits = s.circuits ∧
    (offerEvent s).moves = s.moves ∧ (offerEvent s).align = s.align ∧ (offerEvent s).orders = s.orders ∧
    (offerEvent s).link = s.link ∧ (offerEvent s).tx = s.tx ∧ (offerEvent s).pending = s.pending := by
  repeat' apply And.intro
  all_goals
    unfold offerEvent
    (try simp) <;> (repeat' split) <;> first | (simp; done) | (with_reducible rfl)

@[simp] theorem frame_judgeAttention :
    (judgeAttention s).dev = s.dev ∧ (judgeAttention s).timing = s.timing ∧ (judgeAttention s).params = s.params ∧
    (judgeAttention s).trunks = s.trunks ∧ (judgeAttention s).sw = s.sw ∧ (judgeAttention s).line = s.line ∧
    (judgeAttention s).span = s.span ∧ (judgeAttention s).map = s.map ∧ (judgeAttention s).circuits = s.circuits ∧
    (judgeAttention s).moves = s.moves ∧ (judgeAttention s).align = s.align ∧ (judgeAttention s).orders = s.orders ∧
    (judgeAttention s).link = s.link ∧ (judgeAttention s).tx = s.tx ∧ (judgeAttention s).pending = s.pending := by
  repeat' apply And.intro
  all_goals
    unfold judgeAttention
    (try simp) <;> (repeat' split) <;> first | (simp; done) | (with_reducible rfl)

@[simp] theorem frame_raise (c : Cause) :
    (raise c s).dev = s.dev ∧ (raise c s).timing = s.timing ∧ (raise c s).params = s.params ∧
    (raise c s).trunks = s.trunks ∧ (raise c s).sw = s.sw ∧ (raise c s).line = s.line ∧ (raise c s).span = s.span ∧
    (raise c s).map = s.map ∧ (raise c s).circuits = s.circuits ∧ (raise c s).moves = s.moves ∧
    (raise c s).align = s.align ∧ (raise c s).orders = s.orders ∧ (raise c s).link = s.link ∧ (raise c s).tx = s.tx ∧
    (raise c s).pending = s.pending := by
  repeat' apply And.intro
  all_goals
    unfold raise
    (try simp) <;> (repeat' split) <;> first | (simp; done) | (with_reducible rfl)

@[simp] theorem frame_offerNotice (n : Notice) (o : Option MoveId) :
    (offerNotice n o s).dev = s.dev ∧ (offerNotice n o s).timing = s.timing ∧ (offerNotice n o s).params = s.params ∧
    (offerNotice n o s).trunks = s.trunks ∧ (offerNotice n o s).sw = s.sw ∧ (offerNotice n o s).line = s.line ∧
    (offerNotice n o s).span = s.span ∧ (offerNotice n o s).map = s.map ∧ (offerNotice n o s).circuits = s.circuits ∧
    (offerNotice n o s).moves = s.moves ∧ (offerNotice n o s).align = s.align ∧
    (offerNotice n o s).orders = s.orders ∧ (offerNotice n o s).tx = s.tx ∧ (offerNotice n o s).pending = s.pending := by
  repeat' apply And.intro
  all_goals
    unfold offerNotice
    (try simp) <;> (repeat' split) <;> first | (simp; done) | (with_reducible rfl)

@[simp] theorem frame_dropOwned (m : MoveId) :
    (dropOwned m s).dev = s.dev ∧ (dropOwned m s).timing = s.timing ∧ (dropOwned m s).params = s.params ∧
    (dropOwned m s).trunks = s.trunks ∧ (dropOwned m s).sw = s.sw ∧ (dropOwned m s).line = s.line ∧
    (dropOwned m s).span = s.span ∧ (dropOwned m s).map = s.map ∧ (dropOwned m s).circuits = s.circuits ∧
    (dropOwned m s).moves = s.moves ∧ (dropOwned m s).align = s.align ∧ (dropOwned m s).orders = s.orders ∧
    (dropOwned m s).mgmt = s.mgmt ∧ (dropOwned m s).tx = s.tx ∧ (dropOwned m s).pending = s.pending := by
  repeat' apply And.intro
  all_goals
    unfold dropOwned
    (try simp) <;> (repeat' split) <;> first | (simp; done) | (with_reducible rfl)

@[simp] theorem frame_offerRequest (v : Move) (k : ReqKind) (b : Bool) (o : Option MoveId) :
    (offerRequest v k b o s).dev = s.dev ∧ (offerRequest v k b o s).timing = s.timing ∧
    (offerRequest v k b o s).params = s.params ∧ (offerRequest v k b o s).trunks = s.trunks ∧
    (offerRequest v k b o s).sw = s.sw ∧ (offerRequest v k b o s).line = s.line ∧
    (offerRequest v k b o s).span = s.span ∧ (offerRequest v k b o s).map = s.map ∧
    (offerRequest v k b o s).circuits = s.circuits ∧ (offerRequest v k b o s).moves = s.moves ∧
    (offerRequest v k b o s).align = s.align ∧ (offerRequest v k b o s).orders = s.orders ∧
    (offerRequest v k b o s).tx = s.tx ∧ (offerRequest v k b o s).pending = s.pending := by
  repeat' apply And.intro
  all_goals
    unfold offerRequest
    (try simp) <;> (repeat' split) <;> first | (simp; done) | (with_reducible rfl)

@[simp] theorem frame_makeRequest (m : MoveId) (k : ReqKind) (b : Bool) :
    (makeRequest m k b s).dev = s.dev ∧ (makeRequest m k b s).timing = s.timing ∧
    (makeRequest m k b s).params = s.params ∧ (makeRequest m k b s).trunks = s.trunks ∧
    (makeRequest m k b s).sw = s.sw ∧ (makeRequest m k b s).line = s.line ∧ (makeRequest m k b s).span = s.span ∧
    (makeRequest m k b s).map = s.map ∧ (makeRequest m k b s).circuits = s.circuits ∧
    (makeRequest m k b s).align = s.align ∧ (makeRequest m k b s).orders = s.orders ∧
    (makeRequest m k b s).tx = s.tx ∧ (makeRequest m k b s).pending = s.pending := by
  repeat' apply And.intro
  all_goals
    unfold makeRequest
    (try simp) <;> (repeat' split) <;> first | (simp; done) | (with_reducible rfl)

@[simp] theorem frame_endRequest (m : MoveId) :
    (endRequest m s).dev = s.dev ∧ (endRequest m s).timing = s.timing ∧ (endRequest m s).params = s.params ∧
    (endRequest m s).trunks = s.trunks ∧ (endRequest m s).sw = s.sw ∧ (endRequest m s).line = s.line ∧
    (endRequest m s).span = s.span ∧ (endRequest m s).map = s.map ∧ (endRequest m s).circuits = s.circuits ∧
    (endRequest m s).align = s.align ∧ (endRequest m s).orders = s.orders ∧ (endRequest m s).mgmt = s.mgmt ∧
    (endRequest m s).tx = s.tx ∧ (endRequest m s).pending = s.pending := by
  repeat' apply And.intro
  all_goals
    unfold endRequest
    (try simp) <;> (repeat' split) <;> first | (simp; done) | (with_reducible rfl)

@[simp] theorem frame_abandonOnce (v : Move) :
    (abandonOnce v s).dev = s.dev ∧ (abandonOnce v s).timing = s.timing ∧ (abandonOnce v s).params = s.params ∧
    (abandonOnce v s).trunks = s.trunks ∧ (abandonOnce v s).sw = s.sw ∧ (abandonOnce v s).line = s.line ∧
    (abandonOnce v s).span = s.span ∧ (abandonOnce v s).map = s.map ∧ (abandonOnce v s).circuits = s.circuits ∧
    (abandonOnce v s).moves = s.moves ∧ (abandonOnce v s).align = s.align ∧ (abandonOnce v s).orders = s.orders ∧
    (abandonOnce v s).tx = s.tx ∧ (abandonOnce v s).pending = s.pending := by
  repeat' apply And.intro
  all_goals
    unfold abandonOnce
    (try simp) <;> (repeat' split) <;> first | (simp; done) | (with_reducible rfl)

@[simp] theorem frame_answer (n : Notice) (k : ReqKind) :
    (answer n k s).dev = s.dev ∧ (answer n k s).timing = s.timing ∧ (answer n k s).params = s.params ∧
    (answer n k s).trunks = s.trunks ∧ (answer n k s).sw = s.sw ∧ (answer n k s).line = s.line ∧
    (answer n k s).span = s.span ∧ (answer n k s).map = s.map ∧ (answer n k s).circuits = s.circuits ∧
    (answer n k s).moves = s.moves ∧ (answer n k s).align = s.align ∧ (answer n k s).orders = s.orders ∧
    (answer n k s).tx = s.tx ∧ (answer n k s).pending = s.pending := by
  repeat' apply And.intro
  all_goals
    unfold answer
    (try simp) <;> (repeat' split) <;> first | (simp; done) | (with_reducible rfl)

@[simp] theorem frame_refuse (n : Notice) (r : RefuseReason) (k : ReqKind) :
    (refuse n r k s).dev = s.dev ∧ (refuse n r k s).timing = s.timing ∧ (refuse n r k s).params = s.params ∧
    (refuse n r k s).trunks = s.trunks ∧ (refuse n r k s).sw = s.sw ∧ (refuse n r k s).line = s.line ∧
    (refuse n r k s).span = s.span ∧ (refuse n r k s).map = s.map ∧ (refuse n r k s).circuits = s.circuits ∧
    (refuse n r k s).moves = s.moves ∧ (refuse n r k s).align = s.align ∧ (refuse n r k s).orders = s.orders ∧
    (refuse n r k s).tx = s.tx ∧ (refuse n r k s).pending = s.pending := by
  repeat' apply And.intro
  all_goals
    unfold refuse
    (try simp) <;> (repeat' split) <;> first | (simp; done) | (with_reducible rfl)

@[simp] theorem frame_judgeHoldOff :
    (judgeHoldOff s).dev = s.dev ∧ (judgeHoldOff s).timing = s.timing ∧ (judgeHoldOff s).params = s.params ∧
    (judgeHoldOff s).trunks = s.trunks ∧ (judgeHoldOff s).sw = s.sw ∧ (judgeHoldOff s).line = s.line ∧
    (judgeHoldOff s).span = s.span ∧ (judgeHoldOff s).map = s.map ∧ (judgeHoldOff s).circuits = s.circuits ∧
    (judgeHoldOff s).moves = s.moves ∧ (judgeHoldOff s).align = s.align ∧ (judgeHoldOff s).orders = s.orders ∧
    (judgeHoldOff s).mgmt = s.mgmt ∧ (judgeHoldOff s).tx = s.tx ∧ (judgeHoldOff s).pending = s.pending := by
  repeat' apply And.intro
  all_goals
    unfold judgeHoldOff
    (try simp) <;> (repeat' split) <;> first | (simp; done) | (with_reducible rfl)

@[simp] theorem frame_setMoveState (c : CircuitId) (st : MoveState) :
    (setMoveState c st s).dev = s.dev ∧ (setMoveState c st s).timing = s.timing ∧
    (setMoveState c st s).params = s.params ∧ (setMoveState c st s).trunks = s.trunks ∧
    (setMoveState c st s).sw = s.sw ∧ (setMoveState c st s).line = s.line ∧ (setMoveState c st s).span = s.span ∧
    (setMoveState c st s).map = s.map ∧ (setMoveState c st s).moves = s.moves ∧
    (setMoveState c st s).align = s.align ∧ (setMoveState c st s).orders = s.orders ∧
    (setMoveState c st s).link = s.link ∧ (setMoveState c st s).mgmt = s.mgmt ∧ (setMoveState c st s).tx = s.tx ∧
    (setMoveState c st s).pending = s.pending := by
  repeat' apply And.intro
  all_goals
    unfold setMoveState
    (try simp) <;> (repeat' split) <;> first | (simp; done) | (with_reducible rfl)

@[simp] theorem frame_rollDecision (m : MoveId) :
    (rollDecision m s).dev = s.dev ∧ (rollDecision m s).timing = s.timing ∧ (rollDecision m s).params = s.params ∧
    (rollDecision m s).trunks = s.trunks ∧ (rollDecision m s).sw = s.sw ∧ (rollDecision m s).line = s.line ∧
    (rollDecision m s).span = s.span ∧ (rollDecision m s).map = s.map ∧ (rollDecision m s).align = s.align ∧
    (rollDecision m s).orders = s.orders ∧ (rollDecision m s).link = s.link ∧ (rollDecision m s).mgmt = s.mgmt ∧
    (rollDecision m s).tx = s.tx ∧ (rollDecision m s).pending = s.pending := by
  repeat' apply And.intro
  all_goals
    unfold rollDecision
    (try simp) <;> (repeat' split) <;> first | (simp; done) | (with_reducible rfl)

@[simp] theorem frame_awaitRoll (m : MoveId) :
    (awaitRoll m s).dev = s.dev ∧ (awaitRoll m s).timing = s.timing ∧ (awaitRoll m s).params = s.params ∧
    (awaitRoll m s).trunks = s.trunks ∧ (awaitRoll m s).sw = s.sw ∧ (awaitRoll m s).line = s.line ∧
    (awaitRoll m s).span = s.span ∧ (awaitRoll m s).map = s.map ∧ (awaitRoll m s).align = s.align ∧
    (awaitRoll m s).orders = s.orders ∧ (awaitRoll m s).link = s.link ∧ (awaitRoll m s).mgmt = s.mgmt ∧
    (awaitRoll m s).tx = s.tx ∧ (awaitRoll m s).pending = s.pending := by
  repeat' apply And.intro
  all_goals
    unfold awaitRoll
    (try simp) <;> (repeat' split) <;> first | (simp; done) | (with_reducible rfl)

@[simp] theorem frame_giveIdleRoll (m : MoveId) :
    (giveIdleRoll m s).dev = s.dev ∧ (giveIdleRoll m s).timing = s.timing ∧ (giveIdleRoll m s).params = s.params ∧
    (giveIdleRoll m s).trunks = s.trunks ∧ (giveIdleRoll m s).sw = s.sw ∧ (giveIdleRoll m s).line = s.line ∧
    (giveIdleRoll m s).span = s.span ∧ (giveIdleRoll m s).map = s.map ∧ (giveIdleRoll m s).circuits = s.circuits ∧
    (giveIdleRoll m s).align = s.align ∧ (giveIdleRoll m s).orders = s.orders ∧ (giveIdleRoll m s).link = s.link ∧
    (giveIdleRoll m s).mgmt = s.mgmt ∧ (giveIdleRoll m s).tx = s.tx ∧ (giveIdleRoll m s).pending = s.pending := by
  repeat' apply And.intro
  all_goals
    unfold giveIdleRoll
    (try simp) <;> (repeat' split) <;> first | (simp; done) | (with_reducible rfl)

@[simp] theorem frame_giveRescue (m : MoveId) :
    (giveRescue m s).dev = s.dev ∧ (giveRescue m s).timing = s.timing ∧ (giveRescue m s).params = s.params ∧
    (giveRescue m s).trunks = s.trunks ∧ (giveRescue m s).sw = s.sw ∧ (giveRescue m s).line = s.line ∧
    (giveRescue m s).span = s.span ∧ (giveRescue m s).map = s.map ∧ (giveRescue m s).circuits = s.circuits ∧
    (giveRescue m s).align = s.align ∧ (giveRescue m s).orders = s.orders ∧ (giveRescue m s).link = s.link ∧
    (giveRescue m s).mgmt = s.mgmt ∧ (giveRescue m s).tx = s.tx ∧ (giveRescue m s).pending = s.pending := by
  repeat' apply And.intro
  all_goals
    unfold giveRescue
    (try simp) <;> (repeat' split) <;> first | (simp; done) | (with_reducible rfl)

@[simp] theorem frame_withdrawIdleRoll (m : MoveId) :
    (withdrawIdleRoll m s).dev = s.dev ∧ (withdrawIdleRoll m s).timing = s.timing ∧
    (withdrawIdleRoll m s).params = s.params ∧ (withdrawIdleRoll m s).trunks = s.trunks ∧
    (withdrawIdleRoll m s).sw = s.sw ∧ (withdrawIdleRoll m s).line = s.line ∧ (withdrawIdleRoll m s).span = s.span ∧
    (withdrawIdleRoll m s).map = s.map ∧ (withdrawIdleRoll m s).align = s.align ∧
    (withdrawIdleRoll m s).orders = s.orders ∧ (withdrawIdleRoll m s).link = s.link ∧
    (withdrawIdleRoll m s).mgmt = s.mgmt ∧ (withdrawIdleRoll m s).tx = s.tx ∧
    (withdrawIdleRoll m s).pending = s.pending := by
  repeat' apply And.intro
  all_goals
    unfold withdrawIdleRoll
    (try simp) <;> (repeat' split) <;> first | (simp; done) | (with_reducible rfl)

@[simp] theorem frame_enterBridged (m : MoveId) :
    (enterBridged m s).dev = s.dev ∧ (enterBridged m s).timing = s.timing ∧ (enterBridged m s).params = s.params ∧
    (enterBridged m s).trunks = s.trunks ∧ (enterBridged m s).sw = s.sw ∧ (enterBridged m s).line = s.line ∧
    (enterBridged m s).span = s.span ∧ (enterBridged m s).map = s.map ∧ (enterBridged m s).orders = s.orders ∧
    (enterBridged m s).link = s.link ∧ (enterBridged m s).mgmt = s.mgmt ∧ (enterBridged m s).tx = s.tx ∧
    (enterBridged m s).pending = s.pending := by
  repeat' apply And.intro
  all_goals
    unfold enterBridged
    (try simp) <;> (repeat' split) <;> first | (simp; done) | (with_reducible rfl)

@[simp] theorem frame_returnToBridged (m : MoveId) :
    (returnToBridged m s).dev = s.dev ∧ (returnToBridged m s).timing = s.timing ∧
    (returnToBridged m s).params = s.params ∧ (returnToBridged m s).trunks = s.trunks ∧
    (returnToBridged m s).sw = s.sw ∧ (returnToBridged m s).line = s.line ∧ (returnToBridged m s).span = s.span ∧
    (returnToBridged m s).map = s.map ∧ (returnToBridged m s).orders = s.orders ∧
    (returnToBridged m s).link = s.link ∧ (returnToBridged m s).mgmt = s.mgmt ∧ (returnToBridged m s).tx = s.tx ∧
    (returnToBridged m s).pending = s.pending := by
  repeat' apply And.intro
  all_goals
    unfold returnToBridged
    (try simp) <;> (repeat' split) <;> first | (simp; done) | (with_reducible rfl)

@[simp] theorem frame_leaveAlign (c : CircuitId) :
    (leaveAlign c s).dev = s.dev ∧ (leaveAlign c s).timing = s.timing ∧ (leaveAlign c s).params = s.params ∧
    (leaveAlign c s).trunks = s.trunks ∧ (leaveAlign c s).sw = s.sw ∧ (leaveAlign c s).line = s.line ∧
    (leaveAlign c s).span = s.span ∧ (leaveAlign c s).map = s.map ∧ (leaveAlign c s).circuits = s.circuits ∧
    (leaveAlign c s).moves = s.moves ∧ (leaveAlign c s).orders = s.orders ∧ (leaveAlign c s).link = s.link ∧
    (leaveAlign c s).mgmt = s.mgmt ∧ (leaveAlign c s).tx = s.tx ∧ (leaveAlign c s).pending = s.pending := by
  repeat' apply And.intro
  all_goals
    unfold leaveAlign
    (try simp) <;> (repeat' split) <;> first | (simp; done) | (with_reducible rfl)

@[simp] theorem frame_judgeCall (c : CircuitId) :
    (judgeCall c s).dev = s.dev ∧ (judgeCall c s).timing = s.timing ∧ (judgeCall c s).params = s.params ∧
    (judgeCall c s).trunks = s.trunks ∧ (judgeCall c s).sw = s.sw ∧ (judgeCall c s).line = s.line ∧
    (judgeCall c s).span = s.span ∧ (judgeCall c s).map = s.map ∧ (judgeCall c s).align = s.align ∧
    (judgeCall c s).orders = s.orders ∧ (judgeCall c s).link = s.link ∧ (judgeCall c s).mgmt = s.mgmt ∧
    (judgeCall c s).tx = s.tx ∧ (judgeCall c s).pending = s.pending := by
  repeat' apply And.intro
  all_goals
    unfold judgeCall
    (try simp) <;> (repeat' split) <;> first | (simp; done) | (with_reducible rfl)

@[simp] theorem frame_observeForward (c : CircuitId) (x : Code) :
    (observeForward c x s).dev = s.dev ∧ (observeForward c x s).timing = s.timing ∧
    (observeForward c x s).params = s.params ∧ (observeForward c x s).trunks = s.trunks ∧
    (observeForward c x s).sw = s.sw ∧ (observeForward c x s).line = s.line ∧ (observeForward c x s).span = s.span ∧
    (observeForward c x s).map = s.map ∧ (observeForward c x s).align = s.align ∧
    (observeForward c x s).orders = s.orders ∧ (observeForward c x s).link = s.link ∧
    (observeForward c x s).mgmt = s.mgmt ∧ (observeForward c x s).tx = s.tx ∧
    (observeForward c x s).pending = s.pending := by
  repeat' apply And.intro
  all_goals
    unfold observeForward
    (try simp) <;> (repeat' split) <;> first | (simp; done) | (with_reducible rfl)

@[simp] theorem frame_observeCopper (c : CircuitId) (x : Code) :
    (observeCopper c x s).dev = s.dev ∧ (observeCopper c x s).timing = s.timing ∧
    (observeCopper c x s).params = s.params ∧ (observeCopper c x s).trunks = s.trunks ∧
    (observeCopper c x s).sw = s.sw ∧ (observeCopper c x s).line = s.line ∧ (observeCopper c x s).span = s.span ∧
    (observeCopper c x s).map = s.map ∧ (observeCopper c x s).align = s.align ∧
    (observeCopper c x s).orders = s.orders ∧ (observeCopper c x s).link = s.link ∧
    (observeCopper c x s).mgmt = s.mgmt ∧ (observeCopper c x s).tx = s.tx ∧ (observeCopper c x s).pending = s.pending := by
  repeat' apply And.intro
  all_goals
    unfold observeCopper
    (try simp) <;> (repeat' split) <;> first | (simp; done) | (with_reducible rfl)

@[simp] theorem frame_observeSpan (c : CircuitId) (w : Word16) (x : Code) :
    (observeSpan c w x s).dev = s.dev ∧ (observeSpan c w x s).timing = s.timing ∧
    (observeSpan c w x s).params = s.params ∧ (observeSpan c w x s).trunks = s.trunks ∧
    (observeSpan c w x s).sw = s.sw ∧ (observeSpan c w x s).line = s.line ∧ (observeSpan c w x s).span = s.span ∧
    (observeSpan c w x s).map = s.map ∧ (observeSpan c w x s).align = s.align ∧
    (observeSpan c w x s).orders = s.orders ∧ (observeSpan c w x s).link = s.link ∧
    (observeSpan c w x s).mgmt = s.mgmt ∧ (observeSpan c w x s).tx = s.tx ∧ (observeSpan c w x s).pending = s.pending := by
  repeat' apply And.intro
  all_goals
    unfold observeSpan
    (try simp) <;> (repeat' split) <;> first | (simp; done) | (with_reducible rfl)

@[simp] theorem frame_restartSpanBackward (c : CircuitId) :
    (restartSpanBackward c s).dev = s.dev ∧ (restartSpanBackward c s).timing = s.timing ∧
    (restartSpanBackward c s).params = s.params ∧ (restartSpanBackward c s).trunks = s.trunks ∧
    (restartSpanBackward c s).sw = s.sw ∧ (restartSpanBackward c s).line = s.line ∧
    (restartSpanBackward c s).span = s.span ∧ (restartSpanBackward c s).map = s.map ∧
    (restartSpanBackward c s).align = s.align ∧ (restartSpanBackward c s).orders = s.orders ∧
    (restartSpanBackward c s).link = s.link ∧ (restartSpanBackward c s).mgmt = s.mgmt ∧
    (restartSpanBackward c s).tx = s.tx ∧ (restartSpanBackward c s).pending = s.pending := by
  repeat' apply And.intro
  all_goals
    unfold restartSpanBackward
    (try simp) <;> (repeat' split) <;> first | (simp; done) | (with_reducible rfl)

@[simp] theorem frame_conditionCopper (k : TrunkId) :
    (conditionCopper k s).dev = s.dev ∧ (conditionCopper k s).timing = s.timing ∧
    (conditionCopper k s).params = s.params ∧ (conditionCopper k s).trunks = s.trunks ∧
    (conditionCopper k s).sw = s.sw ∧ (conditionCopper k s).line = s.line ∧ (conditionCopper k s).span = s.span ∧
    (conditionCopper k s).map = s.map ∧ (conditionCopper k s).moves = s.moves ∧
    (conditionCopper k s).align = s.align ∧ (conditionCopper k s).orders = s.orders ∧
    (conditionCopper k s).link = s.link ∧ (conditionCopper k s).mgmt = s.mgmt ∧ (conditionCopper k s).tx = s.tx ∧
    (conditionCopper k s).pending = s.pending := by
  repeat' apply And.intro
  all_goals
    unfold conditionCopper
    (try simp) <;> (repeat' split) <;> first | (simp; done) | (with_reducible rfl)

@[simp] theorem frame_uncondCopper (k : TrunkId) :
    (uncondCopper k s).dev = s.dev ∧ (uncondCopper k s).timing = s.timing ∧ (uncondCopper k s).params = s.params ∧
    (uncondCopper k s).trunks = s.trunks ∧ (uncondCopper k s).sw = s.sw ∧ (uncondCopper k s).line = s.line ∧
    (uncondCopper k s).span = s.span ∧ (uncondCopper k s).map = s.map ∧ (uncondCopper k s).moves = s.moves ∧
    (uncondCopper k s).align = s.align ∧ (uncondCopper k s).orders = s.orders ∧ (uncondCopper k s).link = s.link ∧
    (uncondCopper k s).mgmt = s.mgmt ∧ (uncondCopper k s).tx = s.tx ∧ (uncondCopper k s).pending = s.pending := by
  repeat' apply And.intro
  all_goals
    unfold uncondCopper
    (try simp) <;> (repeat' split) <;> first | (simp; done) | (with_reducible rfl)

@[simp] theorem frame_conditionSpan :
    (conditionSpan s).dev = s.dev ∧ (conditionSpan s).timing = s.timing ∧ (conditionSpan s).params = s.params ∧
    (conditionSpan s).trunks = s.trunks ∧ (conditionSpan s).sw = s.sw ∧ (conditionSpan s).line = s.line ∧
    (conditionSpan s).span = s.span ∧ (conditionSpan s).map = s.map ∧ (conditionSpan s).moves = s.moves ∧
    (conditionSpan s).align = s.align ∧ (conditionSpan s).orders = s.orders ∧ (conditionSpan s).link = s.link ∧
    (conditionSpan s).mgmt = s.mgmt ∧ (conditionSpan s).tx = s.tx ∧ (conditionSpan s).pending = s.pending := by
  repeat' apply And.intro
  all_goals
    unfold conditionSpan
    (try simp) <;> (repeat' split) <;> first | (simp; done) | (with_reducible rfl)

@[simp] theorem frame_startRestore :
    (startRestore s).dev = s.dev ∧ (startRestore s).timing = s.timing ∧ (startRestore s).params = s.params ∧
    (startRestore s).trunks = s.trunks ∧ (startRestore s).sw = s.sw ∧ (startRestore s).line = s.line ∧
    (startRestore s).span = s.span ∧ (startRestore s).map = s.map ∧ (startRestore s).moves = s.moves ∧
    (startRestore s).align = s.align ∧ (startRestore s).orders = s.orders ∧ (startRestore s).link = s.link ∧
    (startRestore s).mgmt = s.mgmt ∧ (startRestore s).tx = s.tx ∧ (startRestore s).pending = s.pending := by
  repeat' apply And.intro
  all_goals
    unfold startRestore
    (try simp) <;> (repeat' split) <;> first | (simp; done) | (with_reducible rfl)

@[simp] theorem frame_selectPath (c : CircuitId) (p : Path) (h : Change) :
    (selectPath c p h s).dev = s.dev ∧ (selectPath c p h s).timing = s.timing ∧
    (selectPath c p h s).params = s.params ∧ (selectPath c p h s).trunks = s.trunks ∧
    (selectPath c p h s).sw = s.sw ∧ (selectPath c p h s).line = s.line ∧ (selectPath c p h s).span = s.span ∧
    (selectPath c p h s).map = s.map ∧ (selectPath c p h s).align = s.align ∧
    (selectPath c p h s).orders = s.orders ∧ (selectPath c p h s).link = s.link ∧
    (selectPath c p h s).mgmt = s.mgmt ∧ (selectPath c p h s).tx = s.tx ∧ (selectPath c p h s).pending = s.pending := by
  repeat' apply And.intro
  all_goals
    unfold selectPath
    (try simp) <;> (repeat' split) <;> first | (simp; done) | (with_reducible rfl)

@[simp] theorem frame_modOrder (n : Byte) (f : Order → Order) :
    (s.modOrder n f).dev = s.dev ∧ (s.modOrder n f).timing = s.timing ∧ (s.modOrder n f).params = s.params ∧
    (s.modOrder n f).trunks = s.trunks ∧ (s.modOrder n f).sw = s.sw ∧ (s.modOrder n f).line = s.line ∧
    (s.modOrder n f).span = s.span ∧ (s.modOrder n f).map = s.map ∧ (s.modOrder n f).circuits = s.circuits ∧
    (s.modOrder n f).moves = s.moves ∧ (s.modOrder n f).align = s.align ∧ (s.modOrder n f).link = s.link ∧
    (s.modOrder n f).mgmt = s.mgmt ∧ (s.modOrder n f).tx = s.tx ∧ (s.modOrder n f).pending = s.pending := by
  repeat' apply And.intro
  all_goals
    unfold State.modOrder
    (try simp) <;> (repeat' split) <;> first | (simp; done) | (with_reducible rfl)

@[simp] theorem frame_passTurnFrom (n : Byte) :
    (passTurnFrom n s).dev = s.dev ∧ (passTurnFrom n s).timing = s.timing ∧ (passTurnFrom n s).params = s.params ∧
    (passTurnFrom n s).trunks = s.trunks ∧ (passTurnFrom n s).sw = s.sw ∧ (passTurnFrom n s).line = s.line ∧
    (passTurnFrom n s).span = s.span ∧ (passTurnFrom n s).map = s.map ∧ (passTurnFrom n s).circuits = s.circuits ∧
    (passTurnFrom n s).moves = s.moves ∧ (passTurnFrom n s).align = s.align ∧ (passTurnFrom n s).link = s.link ∧
    (passTurnFrom n s).mgmt = s.mgmt ∧ (passTurnFrom n s).tx = s.tx ∧ (passTurnFrom n s).pending = s.pending := by
  repeat' apply And.intro
  all_goals
    unfold passTurnFrom
    (try simp) <;> (repeat' split) <;> first | (simp; done) | (with_reducible rfl)

@[simp] theorem frame_takeTurn (n : Byte) :
    (takeTurn n s).dev = s.dev ∧ (takeTurn n s).timing = s.timing ∧ (takeTurn n s).params = s.params ∧
    (takeTurn n s).trunks = s.trunks ∧ (takeTurn n s).sw = s.sw ∧ (takeTurn n s).line = s.line ∧
    (takeTurn n s).span = s.span ∧ (takeTurn n s).map = s.map ∧ (takeTurn n s).circuits = s.circuits ∧
    (takeTurn n s).moves = s.moves ∧ (takeTurn n s).align = s.align ∧ (takeTurn n s).link = s.link ∧
    (takeTurn n s).mgmt = s.mgmt ∧ (takeTurn n s).tx = s.tx ∧ (takeTurn n s).pending = s.pending := by
  repeat' apply And.intro
  all_goals
    unfold takeTurn
    (try simp) <;> (repeat' split) <;> first | (simp; done) | (with_reducible rfl)

@[simp] theorem frame_endOrder (n : Byte) (st : OrderState) :
    (endOrder n st s).dev = s.dev ∧ (endOrder n st s).timing = s.timing ∧ (endOrder n st s).params = s.params ∧
    (endOrder n st s).trunks = s.trunks ∧ (endOrder n st s).sw = s.sw ∧ (endOrder n st s).line = s.line ∧
    (endOrder n st s).span = s.span ∧ (endOrder n st s).map = s.map ∧ (endOrder n st s).circuits = s.circuits ∧
    (endOrder n st s).moves = s.moves ∧ (endOrder n st s).align = s.align ∧ (endOrder n st s).link = s.link ∧
    (endOrder n st s).tx = s.tx ∧ (endOrder n st s).pending = s.pending := by
  repeat' apply And.intro
  all_goals
    unfold endOrder
    (try simp) <;> (repeat' split) <;> first | (simp; done) | (with_reducible rfl)

@[simp] theorem frame_judgeOrder (n : Byte) :
    (judgeOrder n s).dev = s.dev ∧ (judgeOrder n s).timing = s.timing ∧ (judgeOrder n s).params = s.params ∧
    (judgeOrder n s).trunks = s.trunks ∧ (judgeOrder n s).sw = s.sw ∧ (judgeOrder n s).line = s.line ∧
    (judgeOrder n s).span = s.span ∧ (judgeOrder n s).map = s.map ∧ (judgeOrder n s).circuits = s.circuits ∧
    (judgeOrder n s).moves = s.moves ∧ (judgeOrder n s).align = s.align ∧ (judgeOrder n s).link = s.link ∧
    (judgeOrder n s).tx = s.tx ∧ (judgeOrder n s).pending = s.pending := by
  repeat' apply And.intro
  all_goals
    unfold judgeOrder
    (try simp) <;> (repeat' split) <;> first | (simp; done) | (with_reducible rfl)

@[simp] theorem frame_closeOrder (n : Byte) (cl : Closing) :
    (closeOrder n cl s).dev = s.dev ∧ (closeOrder n cl s).timing = s.timing ∧ (closeOrder n cl s).params = s.params ∧
    (closeOrder n cl s).trunks = s.trunks ∧ (closeOrder n cl s).sw = s.sw ∧ (closeOrder n cl s).line = s.line ∧
    (closeOrder n cl s).span = s.span ∧ (closeOrder n cl s).map = s.map ∧ (closeOrder n cl s).circuits = s.circuits ∧
    (closeOrder n cl s).moves = s.moves ∧ (closeOrder n cl s).align = s.align ∧ (closeOrder n cl s).link = s.link ∧
    (closeOrder n cl s).tx = s.tx ∧ (closeOrder n cl s).pending = s.pending := by
  repeat' apply And.intro
  all_goals
    unfold closeOrder
    (try simp) <;> (repeat' split) <;> first | (simp; done) | (with_reducible rfl)

@[simp] theorem frame_setEntry (n : Byte) (c : CircuitId) (st : EntryState) :
    (setEntry n c st s).dev = s.dev ∧ (setEntry n c st s).timing = s.timing ∧ (setEntry n c st s).params = s.params ∧
    (setEntry n c st s).trunks = s.trunks ∧ (setEntry n c st s).sw = s.sw ∧ (setEntry n c st s).line = s.line ∧
    (setEntry n c st s).span = s.span ∧ (setEntry n c st s).map = s.map ∧ (setEntry n c st s).circuits = s.circuits ∧
    (setEntry n c st s).moves = s.moves ∧ (setEntry n c st s).align = s.align ∧ (setEntry n c st s).link = s.link ∧
    (setEntry n c st s).mgmt = s.mgmt ∧ (setEntry n c st s).tx = s.tx ∧ (setEntry n c st s).pending = s.pending := by
  repeat' apply And.intro
  all_goals
    unfold setEntry
    (try simp) <;> (repeat' split) <;> first | (simp; done) | (with_reducible rfl)

@[simp] theorem frame_moveEnded (n : Option Byte) (c : CircuitId) (b : Bool) :
    (moveEnded n c b s).dev = s.dev ∧ (moveEnded n c b s).timing = s.timing ∧ (moveEnded n c b s).params = s.params ∧
    (moveEnded n c b s).trunks = s.trunks ∧ (moveEnded n c b s).sw = s.sw ∧ (moveEnded n c b s).line = s.line ∧
    (moveEnded n c b s).span = s.span ∧ (moveEnded n c b s).map = s.map ∧ (moveEnded n c b s).moves = s.moves ∧
    (moveEnded n c b s).align = s.align ∧ (moveEnded n c b s).link = s.link ∧ (moveEnded n c b s).tx = s.tx ∧
    (moveEnded n c b s).pending = s.pending := by
  repeat' apply And.intro
  all_goals
    unfold moveEnded
    (try simp) <;> (repeat' split) <;> first | (simp; done) | (with_reducible rfl)

@[simp] theorem frame_takeSlot (m : MoveId) (c : CircuitId) (r : Role) (k : MoveKind) (d : Dir) (p : Option Word16) (o : Option Byte) :
    (takeSlot m c r k d p o s).dev = s.dev ∧ (takeSlot m c r k d p o s).timing = s.timing ∧
    (takeSlot m c r k d p o s).params = s.params ∧ (takeSlot m c r k d p o s).trunks = s.trunks ∧
    (takeSlot m c r k d p o s).sw = s.sw ∧ (takeSlot m c r k d p o s).line = s.line ∧
    (takeSlot m c r k d p o s).span = s.span ∧ (takeSlot m c r k d p o s).map = s.map ∧
    (takeSlot m c r k d p o s).align = s.align ∧ (takeSlot m c r k d p o s).orders = s.orders ∧
    (takeSlot m c r k d p o s).link = s.link ∧ (takeSlot m c r k d p o s).mgmt = s.mgmt ∧
    (takeSlot m c r k d p o s).tx = s.tx ∧ (takeSlot m c r k d p o s).pending = s.pending := by
  repeat' apply And.intro
  all_goals
    unfold takeSlot
    (try simp) <;> (repeat' split) <;> first | (simp; done) | (with_reducible rfl)

@[simp] theorem frame_freeSlot (m : MoveId) :
    (freeSlot m s).dev = s.dev ∧ (freeSlot m s).timing = s.timing ∧ (freeSlot m s).params = s.params ∧
    (freeSlot m s).trunks = s.trunks ∧ (freeSlot m s).sw = s.sw ∧ (freeSlot m s).line = s.line ∧
    (freeSlot m s).span = s.span ∧ (freeSlot m s).map = s.map ∧ (freeSlot m s).circuits = s.circuits ∧
    (freeSlot m s).align = s.align ∧ (freeSlot m s).orders = s.orders ∧ (freeSlot m s).mgmt = s.mgmt ∧
    (freeSlot m s).tx = s.tx ∧ (freeSlot m s).pending = s.pending := by
  repeat' apply And.intro
  all_goals
    unfold freeSlot
    (try simp) <;> (repeat' split) <;> first | (simp; done) | (with_reducible rfl)

@[simp] theorem frame_writeFault (c : CircuitId) (f : FaultCode) :
    (writeFault c f s).dev = s.dev ∧ (writeFault c f s).timing = s.timing ∧ (writeFault c f s).params = s.params ∧
    (writeFault c f s).trunks = s.trunks ∧ (writeFault c f s).sw = s.sw ∧ (writeFault c f s).line = s.line ∧
    (writeFault c f s).span = s.span ∧ (writeFault c f s).map = s.map ∧ (writeFault c f s).moves = s.moves ∧
    (writeFault c f s).align = s.align ∧ (writeFault c f s).orders = s.orders ∧ (writeFault c f s).link = s.link ∧
    (writeFault c f s).mgmt = s.mgmt ∧ (writeFault c f s).tx = s.tx ∧ (writeFault c f s).pending = s.pending := by
  repeat' apply And.intro
  all_goals
    unfold writeFault
    (try simp) <;> (repeat' split) <;> first | (simp; done) | (with_reducible rfl)

@[simp] theorem frame_failFault (c : CircuitId) (f : FaultCode) :
    (failFault c f s).dev = s.dev ∧ (failFault c f s).timing = s.timing ∧ (failFault c f s).params = s.params ∧
    (failFault c f s).trunks = s.trunks ∧ (failFault c f s).sw = s.sw ∧ (failFault c f s).line = s.line ∧
    (failFault c f s).span = s.span ∧ (failFault c f s).map = s.map ∧ (failFault c f s).moves = s.moves ∧
    (failFault c f s).align = s.align ∧ (failFault c f s).orders = s.orders ∧ (failFault c f s).link = s.link ∧
    (failFault c f s).tx = s.tx ∧ (failFault c f s).pending = s.pending := by
  repeat' apply And.intro
  all_goals
    unfold failFault
    (try simp) <;> (repeat' split) <;> first | (simp; done) | (with_reducible rfl)

@[simp] theorem frame_endMove (m : MoveId) (r : MoveState) (h : Change) (b : Bool) :
    (endMove m r h b s).dev = s.dev ∧ (endMove m r h b s).timing = s.timing ∧ (endMove m r h b s).params = s.params ∧
    (endMove m r h b s).trunks = s.trunks ∧ (endMove m r h b s).sw = s.sw ∧ (endMove m r h b s).line = s.line ∧
    (endMove m r h b s).span = s.span ∧ (endMove m r h b s).map = s.map ∧ (endMove m r h b s).tx = s.tx ∧
    (endMove m r h b s).pending = s.pending := by
  repeat' apply And.intro
  all_goals
    unfold endMove
    (try simp) <;> (repeat' split) <;> first | (simp; done) | (with_reducible rfl)

@[simp] theorem frame_completeMove (m : MoveId) (r : MoveResult) :
    (completeMove m r s).dev = s.dev ∧ (completeMove m r s).timing = s.timing ∧
    (completeMove m r s).params = s.params ∧ (completeMove m r s).trunks = s.trunks ∧
    (completeMove m r s).sw = s.sw ∧ (completeMove m r s).line = s.line ∧ (completeMove m r s).span = s.span ∧
    (completeMove m r s).map = s.map ∧ (completeMove m r s).tx = s.tx ∧ (completeMove m r s).pending = s.pending := by
  repeat' apply And.intro
  all_goals
    unfold completeMove
    (try simp) <;> (repeat' split) <;> first | (simp; done) | (with_reducible rfl)

@[simp] theorem frame_swapPaths (c : CircuitId) (d : Dir) :
    (swapPaths c d s).dev = s.dev ∧ (swapPaths c d s).timing = s.timing ∧ (swapPaths c d s).params = s.params ∧
    (swapPaths c d s).trunks = s.trunks ∧ (swapPaths c d s).sw = s.sw ∧ (swapPaths c d s).line = s.line ∧
    (swapPaths c d s).span = s.span ∧ (swapPaths c d s).map = s.map ∧ (swapPaths c d s).align = s.align ∧
    (swapPaths c d s).orders = s.orders ∧ (swapPaths c d s).link = s.link ∧ (swapPaths c d s).mgmt = s.mgmt ∧
    (swapPaths c d s).tx = s.tx ∧ (swapPaths c d s).pending = s.pending := by
  repeat' apply And.intro
  all_goals
    unfold swapPaths
    (try simp) <;> (repeat' split) <;> first | (simp; done) | (with_reducible rfl)

@[simp] theorem frame_initiatorSwap (m : MoveId) (b : Bool) :
    (initiatorSwap m b s).dev = s.dev ∧ (initiatorSwap m b s).timing = s.timing ∧
    (initiatorSwap m b s).params = s.params ∧ (initiatorSwap m b s).trunks = s.trunks ∧
    (initiatorSwap m b s).sw = s.sw ∧ (initiatorSwap m b s).line = s.line ∧ (initiatorSwap m b s).span = s.span ∧
    (initiatorSwap m b s).map = s.map ∧ (initiatorSwap m b s).align = s.align ∧
    (initiatorSwap m b s).orders = s.orders ∧ (initiatorSwap m b s).tx = s.tx ∧
    (initiatorSwap m b s).pending = s.pending := by
  repeat' apply And.intro
  all_goals
    unfold initiatorSwap
    (try simp) <;> (repeat' split) <;> first | (simp; done) | (with_reducible rfl)

@[simp] theorem frame_undoMove (m : MoveId) (f : FaultCode) (a b : Bool) :
    (undoMove m f a b s).dev = s.dev ∧ (undoMove m f a b s).timing = s.timing ∧
    (undoMove m f a b s).params = s.params ∧ (undoMove m f a b s).trunks = s.trunks ∧
    (undoMove m f a b s).sw = s.sw ∧ (undoMove m f a b s).line = s.line ∧ (undoMove m f a b s).span = s.span ∧
    (undoMove m f a b s).map = s.map ∧ (undoMove m f a b s).tx = s.tx ∧ (undoMove m f a b s).pending = s.pending := by
  repeat' apply And.intro
  all_goals
    unfold undoMove
    (try simp) <;> (repeat' split) <;> first | (simp; done) | (with_reducible rfl)

@[simp] theorem frame_failHitless (m : MoveId) (f : FaultCode) :
    (failHitless m f s).dev = s.dev ∧ (failHitless m f s).timing = s.timing ∧ (failHitless m f s).params = s.params ∧
    (failHitless m f s).trunks = s.trunks ∧ (failHitless m f s).sw = s.sw ∧ (failHitless m f s).line = s.line ∧
    (failHitless m f s).span = s.span ∧ (failHitless m f s).map = s.map ∧ (failHitless m f s).orders = s.orders ∧
    (failHitless m f s).tx = s.tx ∧ (failHitless m f s).pending = s.pending := by
  repeat' apply And.intro
  all_goals
    unfold failHitless
    (try simp) <;> (repeat' split) <;> first | (simp; done) | (with_reducible rfl)

@[simp] theorem frame_finishAbandon (m : MoveId) :
    (finishAbandon m s).dev = s.dev ∧ (finishAbandon m s).timing = s.timing ∧ (finishAbandon m s).params = s.params ∧
    (finishAbandon m s).trunks = s.trunks ∧ (finishAbandon m s).sw = s.sw ∧ (finishAbandon m s).line = s.line ∧
    (finishAbandon m s).span = s.span ∧ (finishAbandon m s).map = s.map ∧ (finishAbandon m s).tx = s.tx ∧
    (finishAbandon m s).pending = s.pending := by
  repeat' apply And.intro
  all_goals
    unfold finishAbandon
    (try simp) <;> (repeat' split) <;> first | (simp; done) | (with_reducible rfl)

@[simp] theorem frame_releaseMove (m : MoveId) :
    (releaseMove m s).dev = s.dev ∧ (releaseMove m s).timing = s.timing ∧ (releaseMove m s).params = s.params ∧
    (releaseMove m s).trunks = s.trunks ∧ (releaseMove m s).sw = s.sw ∧ (releaseMove m s).line = s.line ∧
    (releaseMove m s).span = s.span ∧ (releaseMove m s).map = s.map ∧ (releaseMove m s).tx = s.tx ∧
    (releaseMove m s).pending = s.pending := by
  repeat' apply And.intro
  all_goals
    unfold releaseMove
    (try simp) <;> (repeat' split) <;> first | (simp; done) | (with_reducible rfl)

@[simp] theorem frame_beginMove (m : MoveId) (c : CircuitId) (d : Dir) (o : Option Byte) :
    (beginMove m c d o s).dev = s.dev ∧ (beginMove m c d o s).timing = s.timing ∧
    (beginMove m c d o s).params = s.params ∧ (beginMove m c d o s).trunks = s.trunks ∧
    (beginMove m c d o s).sw = s.sw ∧ (beginMove m c d o s).line = s.line ∧ (beginMove m c d o s).span = s.span ∧
    (beginMove m c d o s).map = s.map ∧ (beginMove m c d o s).align = s.align ∧
    (beginMove m c d o s).orders = s.orders ∧ (beginMove m c d o s).tx = s.tx ∧
    (beginMove m c d o s).pending = s.pending := by
  repeat' apply And.intro
  all_goals
    unfold beginMove
    (try simp) <;> (repeat' split) <;> first | (simp; done) | (with_reducible rfl)

@[simp] theorem frame_makeRoll (m : MoveId) (k : RollKind) :
    (makeRoll m k s).dev = s.dev ∧ (makeRoll m k s).timing = s.timing ∧ (makeRoll m k s).params = s.params ∧
    (makeRoll m k s).trunks = s.trunks ∧ (makeRoll m k s).sw = s.sw ∧ (makeRoll m k s).line = s.line ∧
    (makeRoll m k s).span = s.span ∧ (makeRoll m k s).map = s.map ∧ (makeRoll m k s).orders = s.orders ∧
    (makeRoll m k s).tx = s.tx ∧ (makeRoll m k s).pending = s.pending := by
  repeat' apply And.intro
  all_goals
    unfold makeRoll
    (try simp) <;> (repeat' split) <;> first | (simp; done) | (with_reducible rfl)

@[simp] theorem frame_startSoak (m : MoveId) :
    (startSoak m s).dev = s.dev ∧ (startSoak m s).timing = s.timing ∧ (startSoak m s).params = s.params ∧
    (startSoak m s).trunks = s.trunks ∧ (startSoak m s).sw = s.sw ∧ (startSoak m s).line = s.line ∧
    (startSoak m s).span = s.span ∧ (startSoak m s).map = s.map ∧ (startSoak m s).circuits = s.circuits ∧
    (startSoak m s).align = s.align ∧ (startSoak m s).orders = s.orders ∧ (startSoak m s).link = s.link ∧
    (startSoak m s).mgmt = s.mgmt ∧ (startSoak m s).tx = s.tx ∧ (startSoak m s).pending = s.pending := by
  repeat' apply And.intro
  all_goals
    unfold startSoak
    (try simp) <;> (repeat' split) <;> first | (simp; done) | (with_reducible rfl)

@[simp] theorem frame_copperLostMove (m : MoveId) :
    (copperLostMove m s).dev = s.dev ∧ (copperLostMove m s).timing = s.timing ∧
    (copperLostMove m s).params = s.params ∧ (copperLostMove m s).trunks = s.trunks ∧
    (copperLostMove m s).sw = s.sw ∧ (copperLostMove m s).line = s.line ∧ (copperLostMove m s).span = s.span ∧
    (copperLostMove m s).map = s.map ∧ (copperLostMove m s).tx = s.tx ∧ (copperLostMove m s).pending = s.pending := by
  repeat' apply And.intro
  all_goals
    unfold copperLostMove
    (try simp) <;> (repeat' split) <;> first | (simp; done) | (with_reducible rfl)

@[simp] theorem frame_copperLostMoves (k : TrunkId) :
    (copperLostMoves k s).dev = s.dev ∧ (copperLostMoves k s).timing = s.timing ∧
    (copperLostMoves k s).params = s.params ∧ (copperLostMoves k s).trunks = s.trunks ∧
    (copperLostMoves k s).sw = s.sw ∧ (copperLostMoves k s).line = s.line ∧ (copperLostMoves k s).span = s.span ∧
    (copperLostMoves k s).map = s.map ∧ (copperLostMoves k s).tx = s.tx ∧ (copperLostMoves k s).pending = s.pending := by
  repeat' apply And.intro
  all_goals
    unfold copperLostMoves
    (try simp [part_forEach State.dev, part_forEach State.timing, part_forEach State.params,
        part_forEach State.trunks, part_forEach State.sw, part_forEach State.line, part_forEach State.span,
        part_forEach State.map, part_forEach State.tx, part_forEach State.pending]) <;> (repeat' split) <;> simp [part_forEach State.dev, part_forEach State.timing, part_forEach State.params,
        part_forEach State.trunks, part_forEach State.sw, part_forEach State.line, part_forEach State.span,
        part_forEach State.map, part_forEach State.tx, part_forEach State.pending]

@[simp] theorem frame_fallBackMove (m : MoveId) :
    (fallBackMove m s).dev = s.dev ∧ (fallBackMove m s).timing = s.timing ∧ (fallBackMove m s).params = s.params ∧
    (fallBackMove m s).trunks = s.trunks ∧ (fallBackMove m s).sw = s.sw ∧ (fallBackMove m s).line = s.line ∧
    (fallBackMove m s).span = s.span ∧ (fallBackMove m s).map = s.map ∧ (fallBackMove m s).tx = s.tx ∧
    (fallBackMove m s).pending = s.pending := by
  repeat' apply And.intro
  all_goals
    unfold fallBackMove
    (try simp) <;> (repeat' split) <;> first | (simp; done) | (with_reducible rfl)

@[simp] theorem frame_fallBack :
    (fallBack s).dev = s.dev ∧ (fallBack s).timing = s.timing ∧ (fallBack s).params = s.params ∧
    (fallBack s).trunks = s.trunks ∧ (fallBack s).sw = s.sw ∧ (fallBack s).line = s.line ∧
    (fallBack s).span = s.span ∧ (fallBack s).map = s.map ∧ (fallBack s).tx = s.tx ∧ (fallBack s).pending = s.pending := by
  repeat' apply And.intro
  all_goals
    unfold fallBack
    (try simp [part_forEach State.dev, part_forEach State.timing, part_forEach State.params,
        part_forEach State.trunks, part_forEach State.sw, part_forEach State.line, part_forEach State.span,
        part_forEach State.map, part_forEach State.tx, part_forEach State.pending]) <;> (repeat' split) <;> simp [part_forEach State.dev, part_forEach State.timing, part_forEach State.params,
        part_forEach State.trunks, part_forEach State.sw, part_forEach State.line, part_forEach State.span,
        part_forEach State.map, part_forEach State.tx, part_forEach State.pending]

@[simp] theorem frame_writeHistory :
    (writeHistory s).dev = s.dev ∧ (writeHistory s).timing = s.timing ∧ (writeHistory s).params = s.params ∧
    (writeHistory s).trunks = s.trunks ∧ (writeHistory s).sw = s.sw ∧ (writeHistory s).line = s.line ∧
    (writeHistory s).span = s.span ∧ (writeHistory s).map = s.map ∧ (writeHistory s).circuits = s.circuits ∧
    (writeHistory s).moves = s.moves ∧ (writeHistory s).orders = s.orders ∧ (writeHistory s).link = s.link ∧
    (writeHistory s).mgmt = s.mgmt ∧ (writeHistory s).tx = s.tx ∧ (writeHistory s).pending = s.pending := by
  repeat' apply And.intro
  all_goals
    unfold writeHistory
    (try simp) <;> (repeat' split) <;> first | (simp; done) | (with_reducible rfl)

@[simp] theorem frame_grantCorrelator :
    (grantCorrelator s).dev = s.dev ∧ (grantCorrelator s).timing = s.timing ∧ (grantCorrelator s).params = s.params ∧
    (grantCorrelator s).trunks = s.trunks ∧ (grantCorrelator s).sw = s.sw ∧ (grantCorrelator s).line = s.line ∧
    (grantCorrelator s).span = s.span ∧ (grantCorrelator s).map = s.map ∧ (grantCorrelator s).circuits = s.circuits ∧
    (grantCorrelator s).moves = s.moves ∧ (grantCorrelator s).orders = s.orders ∧ (grantCorrelator s).link = s.link ∧
    (grantCorrelator s).mgmt = s.mgmt ∧ (grantCorrelator s).tx = s.tx ∧ (grantCorrelator s).pending = s.pending := by
  repeat' apply And.intro
  all_goals
    unfold grantCorrelator
    (try simp) <;> (repeat' split) <;> first | (simp; done) | (with_reducible rfl)

@[simp] theorem frame_confirmLag (c : CircuitId) (l : Int) :
    (confirmLag c l s).dev = s.dev ∧ (confirmLag c l s).timing = s.timing ∧ (confirmLag c l s).params = s.params ∧
    (confirmLag c l s).trunks = s.trunks ∧ (confirmLag c l s).sw = s.sw ∧ (confirmLag c l s).line = s.line ∧
    (confirmLag c l s).span = s.span ∧ (confirmLag c l s).map = s.map ∧ (confirmLag c l s).orders = s.orders ∧
    (confirmLag c l s).link = s.link ∧ (confirmLag c l s).mgmt = s.mgmt ∧ (confirmLag c l s).tx = s.tx ∧
    (confirmLag c l s).pending = s.pending := by
  repeat' apply And.intro
  all_goals
    unfold confirmLag
    (try simp) <;> (repeat' split) <;> first | (simp; done) | (with_reducible rfl)

@[simp] theorem frame_failMeasured (c : CircuitId) (f : FaultCode) :
    (failMeasured c f s).dev = s.dev ∧ (failMeasured c f s).timing = s.timing ∧
    (failMeasured c f s).params = s.params ∧ (failMeasured c f s).trunks = s.trunks ∧
    (failMeasured c f s).sw = s.sw ∧ (failMeasured c f s).line = s.line ∧ (failMeasured c f s).span = s.span ∧
    (failMeasured c f s).map = s.map ∧ (failMeasured c f s).orders = s.orders ∧ (failMeasured c f s).tx = s.tx ∧
    (failMeasured c f s).pending = s.pending := by
  repeat' apply And.intro
  all_goals
    unfold failMeasured
    (try simp) <;> (repeat' split) <;> first | (simp; done) | (with_reducible rfl)

@[simp] theorem frame_modCorr (i : CorrId) (f : Measure → Measure) :
    (s.modCorr i f).dev = s.dev ∧ (s.modCorr i f).timing = s.timing ∧ (s.modCorr i f).params = s.params ∧
    (s.modCorr i f).trunks = s.trunks ∧ (s.modCorr i f).sw = s.sw ∧ (s.modCorr i f).line = s.line ∧
    (s.modCorr i f).span = s.span ∧ (s.modCorr i f).map = s.map ∧ (s.modCorr i f).circuits = s.circuits ∧
    (s.modCorr i f).moves = s.moves ∧ (s.modCorr i f).orders = s.orders ∧ (s.modCorr i f).link = s.link ∧
    (s.modCorr i f).mgmt = s.mgmt ∧ (s.modCorr i f).tx = s.tx ∧ (s.modCorr i f).pending = s.pending := by
  repeat' apply And.intro
  all_goals
    unfold State.modCorr
    (try simp) <;> (repeat' split) <;> first | (simp; done) | (with_reducible rfl)

@[simp] theorem frame_applyWindow (i : CorrId) (x : Measure) (r : WindowResult) :
    (applyWindow i x r s).dev = s.dev ∧ (applyWindow i x r s).timing = s.timing ∧
    (applyWindow i x r s).params = s.params ∧ (applyWindow i x r s).trunks = s.trunks ∧
    (applyWindow i x r s).sw = s.sw ∧ (applyWindow i x r s).line = s.line ∧ (applyWindow i x r s).span = s.span ∧
    (applyWindow i x r s).map = s.map ∧ (applyWindow i x r s).orders = s.orders ∧ (applyWindow i x r s).tx = s.tx ∧
    (applyWindow i x r s).pending = s.pending := by
  repeat' apply And.intro
  all_goals
    unfold applyWindow
    (try simp) <;> (repeat' split) <;> first | (simp; done) | (with_reducible rfl)

@[simp] theorem frame_evaluateWindow (i : CorrId) :
    (evaluateWindow i s).dev = s.dev ∧ (evaluateWindow i s).timing = s.timing ∧
    (evaluateWindow i s).params = s.params ∧ (evaluateWindow i s).trunks = s.trunks ∧
    (evaluateWindow i s).sw = s.sw ∧ (evaluateWindow i s).line = s.line ∧ (evaluateWindow i s).span = s.span ∧
    (evaluateWindow i s).map = s.map ∧ (evaluateWindow i s).orders = s.orders ∧ (evaluateWindow i s).tx = s.tx ∧
    (evaluateWindow i s).pending = s.pending := by
  repeat' apply And.intro
  all_goals
    unfold evaluateWindow
    (try simp) <;> (repeat' split) <;> first | (simp; done) | (with_reducible rfl)

@[simp] theorem frame_timeOutMeasurement (i : CorrId) :
    (timeOutMeasurement i s).dev = s.dev ∧ (timeOutMeasurement i s).timing = s.timing ∧
    (timeOutMeasurement i s).params = s.params ∧ (timeOutMeasurement i s).trunks = s.trunks ∧
    (timeOutMeasurement i s).sw = s.sw ∧ (timeOutMeasurement i s).line = s.line ∧
    (timeOutMeasurement i s).span = s.span ∧ (timeOutMeasurement i s).map = s.map ∧
    (timeOutMeasurement i s).orders = s.orders ∧ (timeOutMeasurement i s).tx = s.tx ∧
    (timeOutMeasurement i s).pending = s.pending := by
  repeat' apply And.intro
  all_goals
    unfold timeOutMeasurement
    (try simp) <;> (repeat' split) <;> first | (simp; done) | (with_reducible rfl)

@[simp] theorem frame_testQuiet (m : MoveId) :
    (testQuiet m s).dev = s.dev ∧ (testQuiet m s).timing = s.timing ∧ (testQuiet m s).params = s.params ∧
    (testQuiet m s).trunks = s.trunks ∧ (testQuiet m s).sw = s.sw ∧ (testQuiet m s).line = s.line ∧
    (testQuiet m s).span = s.span ∧ (testQuiet m s).map = s.map ∧ (testQuiet m s).orders = s.orders ∧
    (testQuiet m s).tx = s.tx ∧ (testQuiet m s).pending = s.pending := by
  repeat' apply And.intro
  all_goals
    unfold testQuiet
    (try simp) <;> (repeat' split) <;> first | (simp; done) | (with_reducible rfl)

@[simp] theorem frame_makeDueRoll (m : MoveId) :
    (makeDueRoll m s).dev = s.dev ∧ (makeDueRoll m s).timing = s.timing ∧ (makeDueRoll m s).params = s.params ∧
    (makeDueRoll m s).trunks = s.trunks ∧ (makeDueRoll m s).sw = s.sw ∧ (makeDueRoll m s).line = s.line ∧
    (makeDueRoll m s).span = s.span ∧ (makeDueRoll m s).map = s.map ∧ (makeDueRoll m s).orders = s.orders ∧
    (makeDueRoll m s).tx = s.tx ∧ (makeDueRoll m s).pending = s.pending := by
  repeat' apply And.intro
  all_goals
    unfold makeDueRoll
    (try simp) <;> (repeat' split) <;> first | (simp; done) | (with_reducible rfl)

@[simp] theorem frame_restartMeasure (c : CircuitId) (f : Frame) :
    (restartMeasure c f s).dev = s.dev ∧ (restartMeasure c f s).timing = s.timing ∧
    (restartMeasure c f s).params = s.params ∧ (restartMeasure c f s).trunks = s.trunks ∧
    (restartMeasure c f s).sw = s.sw ∧ (restartMeasure c f s).line = s.line ∧ (restartMeasure c f s).span = s.span ∧
    (restartMeasure c f s).map = s.map ∧ (restartMeasure c f s).circuits = s.circuits ∧
    (restartMeasure c f s).moves = s.moves ∧ (restartMeasure c f s).orders = s.orders ∧
    (restartMeasure c f s).link = s.link ∧ (restartMeasure c f s).mgmt = s.mgmt ∧ (restartMeasure c f s).tx = s.tx ∧
    (restartMeasure c f s).pending = s.pending := by
  repeat' apply And.intro
  all_goals
    unfold restartMeasure
    (try simp) <;> (repeat' split) <;> first | (simp; done) | (with_reducible rfl)

@[simp] theorem frame_slipMove (f : Frame) (m : MoveId) :
    (slipMove f m s).dev = s.dev ∧ (slipMove f m s).timing = s.timing ∧ (slipMove f m s).params = s.params ∧
    (slipMove f m s).trunks = s.trunks ∧ (slipMove f m s).sw = s.sw ∧ (slipMove f m s).line = s.line ∧
    (slipMove f m s).span = s.span ∧ (slipMove f m s).map = s.map ∧ (slipMove f m s).orders = s.orders ∧
    (slipMove f m s).link = s.link ∧ (slipMove f m s).mgmt = s.mgmt ∧ (slipMove f m s).tx = s.tx ∧
    (slipMove f m s).pending = s.pending := by
  repeat' apply And.intro
  all_goals
    unfold slipMove
    (try simp) <;> (repeat' split) <;> first | (simp; done) | (with_reducible rfl)

@[simp] theorem frame_copperSlip (k : TrunkId) (f : Frame) :
    (copperSlip k f s).dev = s.dev ∧ (copperSlip k f s).timing = s.timing ∧ (copperSlip k f s).params = s.params ∧
    (copperSlip k f s).trunks = s.trunks ∧ (copperSlip k f s).sw = s.sw ∧ (copperSlip k f s).line = s.line ∧
    (copperSlip k f s).span = s.span ∧ (copperSlip k f s).map = s.map ∧ (copperSlip k f s).orders = s.orders ∧
    (copperSlip k f s).link = s.link ∧ (copperSlip k f s).mgmt = s.mgmt ∧ (copperSlip k f s).tx = s.tx ∧
    (copperSlip k f s).pending = s.pending := by
  repeat' apply And.intro
  all_goals
    unfold copperSlip
    (try simp [part_forEach State.dev, part_forEach State.timing, part_forEach State.params,
        part_forEach State.trunks, part_forEach State.sw, part_forEach State.line, part_forEach State.span,
        part_forEach State.map, part_forEach State.orders, part_forEach State.link, part_forEach State.mgmt,
        part_forEach State.tx, part_forEach State.pending]) <;> (repeat' split) <;> simp [part_forEach State.dev, part_forEach State.timing, part_forEach State.params,
        part_forEach State.trunks, part_forEach State.sw, part_forEach State.line, part_forEach State.span,
        part_forEach State.map, part_forEach State.orders, part_forEach State.link, part_forEach State.mgmt,
        part_forEach State.tx, part_forEach State.pending]

@[simp] theorem frame_spanSlip (f : Frame) :
    (spanSlip f s).dev = s.dev ∧ (spanSlip f s).timing = s.timing ∧ (spanSlip f s).params = s.params ∧
    (spanSlip f s).trunks = s.trunks ∧ (spanSlip f s).sw = s.sw ∧ (spanSlip f s).line = s.line ∧
    (spanSlip f s).span = s.span ∧ (spanSlip f s).map = s.map ∧ (spanSlip f s).orders = s.orders ∧
    (spanSlip f s).link = s.link ∧ (spanSlip f s).mgmt = s.mgmt ∧ (spanSlip f s).tx = s.tx ∧
    (spanSlip f s).pending = s.pending := by
  repeat' apply And.intro
  all_goals
    unfold spanSlip
    (try simp [part_forEach State.dev, part_forEach State.timing, part_forEach State.params,
        part_forEach State.trunks, part_forEach State.sw, part_forEach State.line, part_forEach State.span,
        part_forEach State.map, part_forEach State.orders, part_forEach State.link, part_forEach State.mgmt,
        part_forEach State.tx, part_forEach State.pending]) <;> (repeat' split) <;> simp [part_forEach State.dev, part_forEach State.timing, part_forEach State.params,
        part_forEach State.trunks, part_forEach State.sw, part_forEach State.line, part_forEach State.span,
        part_forEach State.map, part_forEach State.orders, part_forEach State.link, part_forEach State.mgmt,
        part_forEach State.tx, part_forEach State.pending]

@[simp] theorem frame_countStale :
    (countStale s).dev = s.dev ∧ (countStale s).timing = s.timing ∧ (countStale s).params = s.params ∧
    (countStale s).trunks = s.trunks ∧ (countStale s).sw = s.sw ∧ (countStale s).line = s.line ∧
    (countStale s).span = s.span ∧ (countStale s).map = s.map ∧ (countStale s).circuits = s.circuits ∧
    (countStale s).moves = s.moves ∧ (countStale s).align = s.align ∧ (countStale s).orders = s.orders ∧
    (countStale s).mgmt = s.mgmt ∧ (countStale s).tx = s.tx ∧ (countStale s).pending = s.pending := by
  repeat' apply And.intro
  all_goals
    unfold countStale
    (try simp) <;> (repeat' split) <;> first | (simp; done) | (with_reducible rfl)

@[simp] theorem frame_blockedAnswered (m : MoveId) :
    (blockedAnswered m s).dev = s.dev ∧ (blockedAnswered m s).timing = s.timing ∧
    (blockedAnswered m s).params = s.params ∧ (blockedAnswered m s).trunks = s.trunks ∧
    (blockedAnswered m s).sw = s.sw ∧ (blockedAnswered m s).line = s.line ∧ (blockedAnswered m s).span = s.span ∧
    (blockedAnswered m s).map = s.map ∧ (blockedAnswered m s).tx = s.tx ∧ (blockedAnswered m s).pending = s.pending := by
  repeat' apply And.intro
  all_goals
    unfold blockedAnswered
    (try simp) <;> (repeat' split) <;> first | (simp; done) | (with_reducible rfl)

@[simp] theorem frame_swappedAnswered (m : MoveId) :
    (swappedAnswered m s).dev = s.dev ∧ (swappedAnswered m s).timing = s.timing ∧
    (swappedAnswered m s).params = s.params ∧ (swappedAnswered m s).trunks = s.trunks ∧
    (swappedAnswered m s).sw = s.sw ∧ (swappedAnswered m s).line = s.line ∧ (swappedAnswered m s).span = s.span ∧
    (swappedAnswered m s).map = s.map ∧ (swappedAnswered m s).tx = s.tx ∧ (swappedAnswered m s).pending = s.pending := by
  repeat' apply And.intro
  all_goals
    unfold swappedAnswered
    (try simp) <;> (repeat' split) <;> first | (simp; done) | (with_reducible rfl)

@[simp] theorem frame_bridgedAnswered (m : MoveId) :
    (bridgedAnswered m s).dev = s.dev ∧ (bridgedAnswered m s).timing = s.timing ∧
    (bridgedAnswered m s).params = s.params ∧ (bridgedAnswered m s).trunks = s.trunks ∧
    (bridgedAnswered m s).sw = s.sw ∧ (bridgedAnswered m s).line = s.line ∧ (bridgedAnswered m s).span = s.span ∧
    (bridgedAnswered m s).map = s.map ∧ (bridgedAnswered m s).orders = s.orders ∧
    (bridgedAnswered m s).mgmt = s.mgmt ∧ (bridgedAnswered m s).tx = s.tx ∧ (bridgedAnswered m s).pending = s.pending := by
  repeat' apply And.intro
  all_goals
    unfold bridgedAnswered
    (try simp) <;> (repeat' split) <;> first | (simp; done) | (with_reducible rfl)

@[simp] theorem frame_notedAnswered (m : MoveId) :
    (notedAnswered m s).dev = s.dev ∧ (notedAnswered m s).timing = s.timing ∧ (notedAnswered m s).params = s.params ∧
    (notedAnswered m s).trunks = s.trunks ∧ (notedAnswered m s).sw = s.sw ∧ (notedAnswered m s).line = s.line ∧
    (notedAnswered m s).span = s.span ∧ (notedAnswered m s).map = s.map ∧ (notedAnswered m s).circuits = s.circuits ∧
    (notedAnswered m s).align = s.align ∧ (notedAnswered m s).orders = s.orders ∧ (notedAnswered m s).mgmt = s.mgmt ∧
    (notedAnswered m s).tx = s.tx ∧ (notedAnswered m s).pending = s.pending := by
  repeat' apply And.intro
  all_goals
    unfold notedAnswered
    (try simp) <;> (repeat' split) <;> first | (simp; done) | (with_reducible rfl)

@[simp] theorem frame_releasedAnswered (m : MoveId) :
    (releasedAnswered m s).dev = s.dev ∧ (releasedAnswered m s).timing = s.timing ∧
    (releasedAnswered m s).params = s.params ∧ (releasedAnswered m s).trunks = s.trunks ∧
    (releasedAnswered m s).sw = s.sw ∧ (releasedAnswered m s).line = s.line ∧ (releasedAnswered m s).span = s.span ∧
    (releasedAnswered m s).map = s.map ∧ (releasedAnswered m s).tx = s.tx ∧
    (releasedAnswered m s).pending = s.pending := by
  repeat' apply And.intro
  all_goals
    unfold releasedAnswered
    (try simp) <;> (repeat' split) <;> first | (simp; done) | (with_reducible rfl)

@[simp] theorem frame_abandonedAnswered (m : MoveId) :
    (abandonedAnswered m s).dev = s.dev ∧ (abandonedAnswered m s).timing = s.timing ∧
    (abandonedAnswered m s).params = s.params ∧ (abandonedAnswered m s).trunks = s.trunks ∧
    (abandonedAnswered m s).sw = s.sw ∧ (abandonedAnswered m s).line = s.line ∧
    (abandonedAnswered m s).span = s.span ∧ (abandonedAnswered m s).map = s.map ∧ (abandonedAnswered m s).tx = s.tx ∧
    (abandonedAnswered m s).pending = s.pending := by
  repeat' apply And.intro
  all_goals
    unfold abandonedAnswered
    (try simp) <;> (repeat' split) <;> first | (simp; done) | (with_reducible rfl)

@[simp] theorem frame_refusedAnswered (m : MoveId) (r : RefuseReason) (k : ReqKind) :
    (refusedAnswered m r k s).dev = s.dev ∧ (refusedAnswered m r k s).timing = s.timing ∧
    (refusedAnswered m r k s).params = s.params ∧ (refusedAnswered m r k s).trunks = s.trunks ∧
    (refusedAnswered m r k s).sw = s.sw ∧ (refusedAnswered m r k s).line = s.line ∧
    (refusedAnswered m r k s).span = s.span ∧ (refusedAnswered m r k s).map = s.map ∧
    (refusedAnswered m r k s).tx = s.tx ∧ (refusedAnswered m r k s).pending = s.pending := by
  repeat' apply And.intro
  all_goals
    unfold refusedAnswered
    (try simp) <;> (repeat' split) <;> first | (simp; done) | (with_reducible rfl)

@[simp] theorem frame_handleAnswer (n : Notice) (k : ReqKind) :
    (handleAnswer n k s).dev = s.dev ∧ (handleAnswer n k s).timing = s.timing ∧
    (handleAnswer n k s).params = s.params ∧ (handleAnswer n k s).trunks = s.trunks ∧
    (handleAnswer n k s).sw = s.sw ∧ (handleAnswer n k s).line = s.line ∧ (handleAnswer n k s).span = s.span ∧
    (handleAnswer n k s).map = s.map ∧ (handleAnswer n k s).tx = s.tx ∧ (handleAnswer n k s).pending = s.pending := by
  repeat' apply And.intro
  all_goals
    unfold handleAnswer
    (try simp) <;> (repeat' split) <;> first | (simp; done) | (with_reducible rfl)

@[simp] theorem frame_handleRefuse (n : Notice) (r : RefuseReason) (k : ReqKind) :
    (handleRefuse n r k s).dev = s.dev ∧ (handleRefuse n r k s).timing = s.timing ∧
    (handleRefuse n r k s).params = s.params ∧ (handleRefuse n r k s).trunks = s.trunks ∧
    (handleRefuse n r k s).sw = s.sw ∧ (handleRefuse n r k s).line = s.line ∧ (handleRefuse n r k s).span = s.span ∧
    (handleRefuse n r k s).map = s.map ∧ (handleRefuse n r k s).tx = s.tx ∧
    (handleRefuse n r k s).pending = s.pending := by
  repeat' apply And.intro
  all_goals
    unfold handleRefuse
    (try simp) <;> (repeat' split) <;> first | (simp; done) | (with_reducible rfl)

@[simp] theorem frame_acceptBlock (m : MoveId) (c : CircuitId) (n : Notice) :
    (acceptBlock m c n s).dev = s.dev ∧ (acceptBlock m c n s).timing = s.timing ∧
    (acceptBlock m c n s).params = s.params ∧ (acceptBlock m c n s).trunks = s.trunks ∧
    (acceptBlock m c n s).sw = s.sw ∧ (acceptBlock m c n s).line = s.line ∧ (acceptBlock m c n s).span = s.span ∧
    (acceptBlock m c n s).map = s.map ∧ (acceptBlock m c n s).align = s.align ∧
    (acceptBlock m c n s).orders = s.orders ∧ (acceptBlock m c n s).tx = s.tx ∧
    (acceptBlock m c n s).pending = s.pending := by
  repeat' apply And.intro
  all_goals
    unfold acceptBlock
    (try simp) <;> (repeat' split) <;> first | (simp; done) | (with_reducible rfl)

@[simp] theorem frame_acceptBridge (m : MoveId) (c : CircuitId) (n : Notice) :
    (acceptBridge m c n s).dev = s.dev ∧ (acceptBridge m c n s).timing = s.timing ∧
    (acceptBridge m c n s).params = s.params ∧ (acceptBridge m c n s).trunks = s.trunks ∧
    (acceptBridge m c n s).sw = s.sw ∧ (acceptBridge m c n s).line = s.line ∧ (acceptBridge m c n s).span = s.span ∧
    (acceptBridge m c n s).map = s.map ∧ (acceptBridge m c n s).orders = s.orders ∧
    (acceptBridge m c n s).tx = s.tx ∧ (acceptBridge m c n s).pending = s.pending := by
  repeat' apply And.intro
  all_goals
    unfold acceptBridge
    (try simp) <;> (repeat' split) <;> first | (simp; done) | (with_reducible rfl)

@[simp] theorem frame_blockAtRest (n : Notice) (c : CircuitId) :
    (blockAtRest n c s).dev = s.dev ∧ (blockAtRest n c s).timing = s.timing ∧ (blockAtRest n c s).params = s.params ∧
    (blockAtRest n c s).trunks = s.trunks ∧ (blockAtRest n c s).sw = s.sw ∧ (blockAtRest n c s).line = s.line ∧
    (blockAtRest n c s).span = s.span ∧ (blockAtRest n c s).map = s.map ∧ (blockAtRest n c s).align = s.align ∧
    (blockAtRest n c s).orders = s.orders ∧ (blockAtRest n c s).tx = s.tx ∧ (blockAtRest n c s).pending = s.pending := by
  repeat' apply And.intro
  all_goals
    unfold blockAtRest
    (try simp) <;> (repeat' split) <;> first | (simp; done) | (with_reducible rfl)

@[simp] theorem frame_bridgeAtRest (n : Notice) (c : CircuitId) :
    (bridgeAtRest n c s).dev = s.dev ∧ (bridgeAtRest n c s).timing = s.timing ∧
    (bridgeAtRest n c s).params = s.params ∧ (bridgeAtRest n c s).trunks = s.trunks ∧
    (bridgeAtRest n c s).sw = s.sw ∧ (bridgeAtRest n c s).line = s.line ∧ (bridgeAtRest n c s).span = s.span ∧
    (bridgeAtRest n c s).map = s.map ∧ (bridgeAtRest n c s).orders = s.orders ∧ (bridgeAtRest n c s).tx = s.tx ∧
    (bridgeAtRest n c s).pending = s.pending := by
  repeat' apply And.intro
  all_goals
    unfold bridgeAtRest
    (try simp) <;> (repeat' split) <;> first | (simp; done) | (with_reducible rfl)

@[simp] theorem frame_swapAtRest (n : Notice) (c : CircuitId) :
    (swapAtRest n c s).dev = s.dev ∧ (swapAtRest n c s).timing = s.timing ∧ (swapAtRest n c s).params = s.params ∧
    (swapAtRest n c s).trunks = s.trunks ∧ (swapAtRest n c s).sw = s.sw ∧ (swapAtRest n c s).line = s.line ∧
    (swapAtRest n c s).span = s.span ∧ (swapAtRest n c s).map = s.map ∧ (swapAtRest n c s).align = s.align ∧
    (swapAtRest n c s).orders = s.orders ∧ (swapAtRest n c s).tx = s.tx ∧ (swapAtRest n c s).pending = s.pending := by
  repeat' apply And.intro
  all_goals
    unfold swapAtRest
    (try simp) <;> (repeat' split) <;> first | (simp; done) | (with_reducible rfl)

@[simp] theorem frame_requestAtRest (n : Notice) (k : ReqKind) (c : CircuitId) :
    (requestAtRest n k c s).dev = s.dev ∧ (requestAtRest n k c s).timing = s.timing ∧
    (requestAtRest n k c s).params = s.params ∧ (requestAtRest n k c s).trunks = s.trunks ∧
    (requestAtRest n k c s).sw = s.sw ∧ (requestAtRest n k c s).line = s.line ∧
    (requestAtRest n k c s).span = s.span ∧ (requestAtRest n k c s).map = s.map ∧
    (requestAtRest n k c s).orders = s.orders ∧ (requestAtRest n k c s).tx = s.tx ∧
    (requestAtRest n k c s).pending = s.pending := by
  repeat' apply And.intro
  all_goals
    unfold requestAtRest
    (try simp) <;> (repeat' split) <;> first | (simp; done) | (with_reducible rfl)

@[simp] theorem frame_recordPeerTag (m : MoveId) (t : Word16) :
    (recordPeerTag m t s).dev = s.dev ∧ (recordPeerTag m t s).timing = s.timing ∧
    (recordPeerTag m t s).params = s.params ∧ (recordPeerTag m t s).trunks = s.trunks ∧
    (recordPeerTag m t s).sw = s.sw ∧ (recordPeerTag m t s).line = s.line ∧ (recordPeerTag m t s).span = s.span ∧
    (recordPeerTag m t s).map = s.map ∧ (recordPeerTag m t s).circuits = s.circuits ∧
    (recordPeerTag m t s).align = s.align ∧ (recordPeerTag m t s).orders = s.orders ∧
    (recordPeerTag m t s).link = s.link ∧ (recordPeerTag m t s).mgmt = s.mgmt ∧ (recordPeerTag m t s).tx = s.tx ∧
    (recordPeerTag m t s).pending = s.pending := by
  repeat' apply And.intro
  all_goals
    unfold recordPeerTag
    (try simp) <;> (repeat' split) <;> first | (simp; done) | (with_reducible rfl)

@[simp] theorem frame_swapInBlocking (m : MoveId) (v : Move) (n : Notice) :
    (swapInBlocking m v n s).dev = s.dev ∧ (swapInBlocking m v n s).timing = s.timing ∧
    (swapInBlocking m v n s).params = s.params ∧ (swapInBlocking m v n s).trunks = s.trunks ∧
    (swapInBlocking m v n s).sw = s.sw ∧ (swapInBlocking m v n s).line = s.line ∧
    (swapInBlocking m v n s).span = s.span ∧ (swapInBlocking m v n s).map = s.map ∧
    (swapInBlocking m v n s).tx = s.tx ∧ (swapInBlocking m v n s).pending = s.pending := by
  repeat' apply And.intro
  all_goals
    unfold swapInBlocking
    (try simp) <;> (repeat' split) <;> first | (simp; done) | (with_reducible rfl)

@[simp] theorem frame_rolledInFlight (m : MoveId) (v : Move) (n : Notice) :
    (rolledInFlight m v n s).dev = s.dev ∧ (rolledInFlight m v n s).timing = s.timing ∧
    (rolledInFlight m v n s).params = s.params ∧ (rolledInFlight m v n s).trunks = s.trunks ∧
    (rolledInFlight m v n s).sw = s.sw ∧ (rolledInFlight m v n s).line = s.line ∧
    (rolledInFlight m v n s).span = s.span ∧ (rolledInFlight m v n s).map = s.map ∧
    (rolledInFlight m v n s).circuits = s.circuits ∧ (rolledInFlight m v n s).align = s.align ∧
    (rolledInFlight m v n s).orders = s.orders ∧ (rolledInFlight m v n s).tx = s.tx ∧
    (rolledInFlight m v n s).pending = s.pending := by
  repeat' apply And.intro
  all_goals
    unfold rolledInFlight
    (try simp) <;> (repeat' split) <;> first | (simp; done) | (with_reducible rfl)

@[simp] theorem frame_undoRequest (v : Move) (k : ReqKind) :
    (undoRequest v k s).dev = s.dev ∧ (undoRequest v k s).timing = s.timing ∧ (undoRequest v k s).params = s.params ∧
    (undoRequest v k s).trunks = s.trunks ∧ (undoRequest v k s).sw = s.sw ∧ (undoRequest v k s).line = s.line ∧
    (undoRequest v k s).span = s.span ∧ (undoRequest v k s).map = s.map ∧ (undoRequest v k s).align = s.align ∧
    (undoRequest v k s).orders = s.orders ∧ (undoRequest v k s).link = s.link ∧ (undoRequest v k s).mgmt = s.mgmt ∧
    (undoRequest v k s).tx = s.tx ∧ (undoRequest v k s).pending = s.pending := by
  repeat' apply And.intro
  all_goals
    unfold undoRequest
    (try simp) <;> (repeat' split) <;> first | (simp; done) | (with_reducible rfl)

@[simp] theorem frame_retire (m : MoveId) (v : Move) (o : ReqKind) (n : Notice) (k : ReqKind) :
    (retire m v o n k s).dev = s.dev ∧ (retire m v o n k s).timing = s.timing ∧
    (retire m v o n k s).params = s.params ∧ (retire m v o n k s).trunks = s.trunks ∧
    (retire m v o n k s).sw = s.sw ∧ (retire m v o n k s).line = s.line ∧ (retire m v o n k s).span = s.span ∧
    (retire m v o n k s).map = s.map ∧ (retire m v o n k s).tx = s.tx ∧ (retire m v o n k s).pending = s.pending := by
  repeat' apply And.intro
  all_goals
    unfold retire
    (try simp) <;> (repeat' split) <;> first | (simp; done) | (with_reducible rfl)

@[simp] theorem frame_crossing (m : MoveId) (v : Move) (n : Notice) (k : ReqKind) :
    (crossing m v n k s).dev = s.dev ∧ (crossing m v n k s).timing = s.timing ∧
    (crossing m v n k s).params = s.params ∧ (crossing m v n k s).trunks = s.trunks ∧
    (crossing m v n k s).sw = s.sw ∧ (crossing m v n k s).line = s.line ∧ (crossing m v n k s).span = s.span ∧
    (crossing m v n k s).map = s.map ∧ (crossing m v n k s).tx = s.tx ∧ (crossing m v n k s).pending = s.pending := by
  repeat' apply And.intro
  all_goals
    unfold crossing
    (try simp) <;> (repeat' split) <;> first | (simp; done) | (with_reducible rfl)

@[simp] theorem frame_abandonInFlight (m : MoveId) (v : Move) (n : Notice) :
    (abandonInFlight m v n s).dev = s.dev ∧ (abandonInFlight m v n s).timing = s.timing ∧
    (abandonInFlight m v n s).params = s.params ∧ (abandonInFlight m v n s).trunks = s.trunks ∧
    (abandonInFlight m v n s).sw = s.sw ∧ (abandonInFlight m v n s).line = s.line ∧
    (abandonInFlight m v n s).span = s.span ∧ (abandonInFlight m v n s).map = s.map ∧
    (abandonInFlight m v n s).tx = s.tx ∧ (abandonInFlight m v n s).pending = s.pending := by
  repeat' apply And.intro
  all_goals
    unfold abandonInFlight
    (try simp) <;> (repeat' split) <;> first | (simp; done) | (with_reducible rfl)

@[simp] theorem frame_requestInFlight (m : MoveId) (v : Move) (n : Notice) (k : ReqKind) :
    (requestInFlight m v n k s).dev = s.dev ∧ (requestInFlight m v n k s).timing = s.timing ∧
    (requestInFlight m v n k s).params = s.params ∧ (requestInFlight m v n k s).trunks = s.trunks ∧
    (requestInFlight m v n k s).sw = s.sw ∧ (requestInFlight m v n k s).line = s.line ∧
    (requestInFlight m v n k s).span = s.span ∧ (requestInFlight m v n k s).map = s.map ∧
    (requestInFlight m v n k s).tx = s.tx ∧ (requestInFlight m v n k s).pending = s.pending := by
  repeat' apply And.intro
  all_goals
    unfold requestInFlight
    (try simp) <;> (repeat' split) <;> first | (simp; done) | (with_reducible rfl)

@[simp] theorem frame_handleRequest (n : Notice) (k : ReqKind) :
    (handleRequest n k s).dev = s.dev ∧ (handleRequest n k s).timing = s.timing ∧
    (handleRequest n k s).params = s.params ∧ (handleRequest n k s).trunks = s.trunks ∧
    (handleRequest n k s).sw = s.sw ∧ (handleRequest n k s).line = s.line ∧ (handleRequest n k s).span = s.span ∧
    (handleRequest n k s).map = s.map ∧ (handleRequest n k s).tx = s.tx ∧ (handleRequest n k s).pending = s.pending := by
  repeat' apply And.intro
  all_goals
    unfold handleRequest
    (try simp) <;> (repeat' split) <;> first | (simp; done) | (with_reducible rfl)

@[simp] theorem frame_handleNotice (n : Notice) :
    (handleNotice n s).dev = s.dev ∧ (handleNotice n s).timing = s.timing ∧ (handleNotice n s).params = s.params ∧
    (handleNotice n s).trunks = s.trunks ∧ (handleNotice n s).sw = s.sw ∧ (handleNotice n s).line = s.line ∧
    (handleNotice n s).span = s.span ∧ (handleNotice n s).map = s.map ∧ (handleNotice n s).tx = s.tx ∧
    (handleNotice n s).pending = s.pending := by
  repeat' apply And.intro
  all_goals
    unfold handleNotice
    (try simp) <;> (repeat' split) <;> first | (simp; done) | (with_reducible rfl)

@[simp] theorem frame_takeNotice (p : Notice → Bool) :
    (takeNotice p s).dev = s.dev ∧ (takeNotice p s).timing = s.timing ∧ (takeNotice p s).params = s.params ∧
    (takeNotice p s).trunks = s.trunks ∧ (takeNotice p s).sw = s.sw ∧ (takeNotice p s).line = s.line ∧
    (takeNotice p s).span = s.span ∧ (takeNotice p s).map = s.map ∧ (takeNotice p s).tx = s.tx ∧
    (takeNotice p s).pending = s.pending := by
  repeat' apply And.intro
  all_goals
    unfold takeNotice
    (try simp) <;> (repeat' split) <;> first | (simp; done) | (with_reducible rfl)

@[simp] theorem frame_completeProxy (x : Byte) (b : List Byte) :
    (completeProxy x b s).dev = s.dev ∧ (completeProxy x b s).timing = s.timing ∧
    (completeProxy x b s).params = s.params ∧ (completeProxy x b s).trunks = s.trunks ∧
    (completeProxy x b s).sw = s.sw ∧ (completeProxy x b s).line = s.line ∧ (completeProxy x b s).span = s.span ∧
    (completeProxy x b s).map = s.map ∧ (completeProxy x b s).circuits = s.circuits ∧
    (completeProxy x b s).moves = s.moves ∧ (completeProxy x b s).align = s.align ∧
    (completeProxy x b s).orders = s.orders ∧ (completeProxy x b s).link = s.link ∧ (completeProxy x b s).tx = s.tx ∧
    (completeProxy x b s).pending = s.pending := by
  repeat' apply And.intro
  all_goals
    unfold completeProxy
    (try simp) <;> (repeat' split) <;> first | (simp; done) | (with_reducible rfl)

@[simp] theorem frame_refuseProxy (r : Reason) :
    (refuseProxy r s).dev = s.dev ∧ (refuseProxy r s).timing = s.timing ∧ (refuseProxy r s).params = s.params ∧
    (refuseProxy r s).trunks = s.trunks ∧ (refuseProxy r s).sw = s.sw ∧ (refuseProxy r s).line = s.line ∧
    (refuseProxy r s).span = s.span ∧ (refuseProxy r s).map = s.map ∧ (refuseProxy r s).circuits = s.circuits ∧
    (refuseProxy r s).moves = s.moves ∧ (refuseProxy r s).align = s.align ∧ (refuseProxy r s).orders = s.orders ∧
    (refuseProxy r s).link = s.link ∧ (refuseProxy r s).tx = s.tx ∧ (refuseProxy r s).pending = s.pending := by
  repeat' apply And.intro
  all_goals
    unfold refuseProxy
    (try simp) <;> (repeat' split) <;> first | (simp; done) | (with_reducible rfl)

@[simp] theorem frame_respond (e : Entry) (t g : Byte) (r : Reply) :
    (respond e t g r s).dev = s.dev ∧ (respond e t g r s).timing = s.timing ∧ (respond e t g r s).params = s.params ∧
    (respond e t g r s).trunks = s.trunks ∧ (respond e t g r s).sw = s.sw ∧ (respond e t g r s).line = s.line ∧
    (respond e t g r s).span = s.span ∧ (respond e t g r s).map = s.map ∧ (respond e t g r s).circuits = s.circuits ∧
    (respond e t g r s).moves = s.moves ∧ (respond e t g r s).align = s.align ∧
    (respond e t g r s).orders = s.orders ∧ (respond e t g r s).link = s.link ∧ (respond e t g r s).tx = s.tx ∧
    (respond e t g r s).pending = s.pending := by
  repeat' apply And.intro
  all_goals
    unfold respond
    (try simp) <;> (repeat' split) <;> first | (simp; done) | (with_reducible rfl)

@[simp] theorem frame_interruptForward (k : TrunkId) :
    (interruptForward k s).dev = s.dev ∧ (interruptForward k s).timing = s.timing ∧
    (interruptForward k s).params = s.params ∧ (interruptForward k s).trunks = s.trunks ∧
    (interruptForward k s).sw = s.sw ∧ (interruptForward k s).line = s.line ∧ (interruptForward k s).span = s.span ∧
    (interruptForward k s).map = s.map ∧ (interruptForward k s).moves = s.moves ∧
    (interruptForward k s).align = s.align ∧ (interruptForward k s).orders = s.orders ∧
    (interruptForward k s).link = s.link ∧ (interruptForward k s).mgmt = s.mgmt ∧ (interruptForward k s).tx = s.tx ∧
    (interruptForward k s).pending = s.pending := by
  repeat' apply And.intro
  all_goals
    unfold interruptForward
    (try simp) <;> (repeat' split) <;> first | (simp; done) | (with_reducible rfl)

@[simp] theorem frame_interruptCopper (k : TrunkId) :
    (interruptCopper k s).dev = s.dev ∧ (interruptCopper k s).timing = s.timing ∧
    (interruptCopper k s).params = s.params ∧ (interruptCopper k s).trunks = s.trunks ∧
    (interruptCopper k s).sw = s.sw ∧ (interruptCopper k s).line = s.line ∧ (interruptCopper k s).span = s.span ∧
    (interruptCopper k s).map = s.map ∧ (interruptCopper k s).moves = s.moves ∧
    (interruptCopper k s).align = s.align ∧ (interruptCopper k s).orders = s.orders ∧
    (interruptCopper k s).link = s.link ∧ (interruptCopper k s).mgmt = s.mgmt ∧ (interruptCopper k s).tx = s.tx ∧
    (interruptCopper k s).pending = s.pending := by
  repeat' apply And.intro
  all_goals
    unfold interruptCopper
    (try simp) <;> (repeat' split) <;> first | (simp; done) | (with_reducible rfl)

@[simp] theorem frame_restartSettle (k : TrunkId) :
    (restartSettle k s).dev = s.dev ∧ (restartSettle k s).timing = s.timing ∧ (restartSettle k s).params = s.params ∧
    (restartSettle k s).sw = s.sw ∧ (restartSettle k s).line = s.line ∧ (restartSettle k s).span = s.span ∧
    (restartSettle k s).map = s.map ∧ (restartSettle k s).circuits = s.circuits ∧
    (restartSettle k s).moves = s.moves ∧ (restartSettle k s).align = s.align ∧
    (restartSettle k s).orders = s.orders ∧ (restartSettle k s).link = s.link ∧ (restartSettle k s).mgmt = s.mgmt ∧
    (restartSettle k s).tx = s.tx ∧ (restartSettle k s).pending = s.pending := by
  repeat' apply And.intro
  all_goals
    unfold restartSettle
    (try simp) <;> (repeat' split) <;> first | (simp; done) | (with_reducible rfl)

@[simp] theorem frame_loseReference :
    (loseReference s).dev = s.dev ∧ (loseReference s).params = s.params ∧ (loseReference s).trunks = s.trunks ∧
    (loseReference s).sw = s.sw ∧ (loseReference s).line = s.line ∧ (loseReference s).span = s.span ∧
    (loseReference s).map = s.map ∧ (loseReference s).circuits = s.circuits ∧ (loseReference s).moves = s.moves ∧
    (loseReference s).align = s.align ∧ (loseReference s).orders = s.orders ∧ (loseReference s).link = s.link ∧
    (loseReference s).mgmt = s.mgmt ∧ (loseReference s).tx = s.tx ∧ (loseReference s).pending = s.pending := by
  repeat' apply And.intro
  all_goals
    unfold loseReference
    (try simp) <;> (repeat' split) <;> first | (simp; done) | (with_reducible rfl)

@[simp] theorem frame_availableFell (p : PortId) :
    (availableFell p s).dev = s.dev ∧ (availableFell p s).params = s.params ∧ (availableFell p s).sw = s.sw ∧
    (availableFell p s).line = s.line ∧ (availableFell p s).span = s.span ∧ (availableFell p s).map = s.map ∧
    (availableFell p s).tx = s.tx ∧ (availableFell p s).pending = s.pending := by
  repeat' apply And.intro
  all_goals
    unfold availableFell
    (try simp) <;> (repeat' split) <;> first | (simp; done) | (with_reducible rfl)

@[simp] theorem frame_availableRose (p : PortId) :
    (availableRose p s).dev = s.dev ∧ (availableRose p s).timing = s.timing ∧ (availableRose p s).params = s.params ∧
    (availableRose p s).trunks = s.trunks ∧ (availableRose p s).sw = s.sw ∧ (availableRose p s).line = s.line ∧
    (availableRose p s).span = s.span ∧ (availableRose p s).map = s.map ∧ (availableRose p s).moves = s.moves ∧
    (availableRose p s).align = s.align ∧ (availableRose p s).orders = s.orders ∧ (availableRose p s).link = s.link ∧
    (availableRose p s).mgmt = s.mgmt ∧ (availableRose p s).tx = s.tx ∧ (availableRose p s).pending = s.pending := by
  repeat' apply And.intro
  all_goals
    unfold availableRose
    (try simp) <;> (repeat' split) <;> first | (simp; done) | (with_reducible rfl)

@[simp] theorem frame_refreshAvailable (p : PortId) :
    (refreshAvailable p s).dev = s.dev ∧ (refreshAvailable p s).params = s.params ∧
    (refreshAvailable p s).span = s.span ∧ (refreshAvailable p s).map = s.map ∧ (refreshAvailable p s).tx = s.tx ∧
    (refreshAvailable p s).pending = s.pending := by
  repeat' apply And.intro
  all_goals
    unfold refreshAvailable
    (try simp) <;> (repeat' split) <;> first | (simp; done) | (with_reducible rfl)

@[simp] theorem frame_countPortSlip (p : PortId) :
    (countPortSlip p s).dev = s.dev ∧ (countPortSlip p s).timing = s.timing ∧ (countPortSlip p s).params = s.params ∧
    (countPortSlip p s).trunks = s.trunks ∧ (countPortSlip p s).span = s.span ∧ (countPortSlip p s).map = s.map ∧
    (countPortSlip p s).circuits = s.circuits ∧ (countPortSlip p s).moves = s.moves ∧
    (countPortSlip p s).align = s.align ∧ (countPortSlip p s).orders = s.orders ∧ (countPortSlip p s).link = s.link ∧
    (countPortSlip p s).tx = s.tx ∧ (countPortSlip p s).pending = s.pending := by
  repeat' apply And.intro
  all_goals
    unfold countPortSlip
    (try simp) <;> (repeat' split) <;> first | (simp; done) | (with_reducible rfl)

@[simp] theorem frame_repeatPort (p : PortId) :
    (repeatPort p s).dev = s.dev ∧ (repeatPort p s).timing = s.timing ∧ (repeatPort p s).params = s.params ∧
    (repeatPort p s).trunks = s.trunks ∧ (repeatPort p s).span = s.span ∧ (repeatPort p s).map = s.map ∧
    (repeatPort p s).orders = s.orders ∧ (repeatPort p s).link = s.link ∧ (repeatPort p s).tx = s.tx ∧
    (repeatPort p s).pending = s.pending := by
  repeat' apply And.intro
  all_goals
    unfold repeatPort
    (try simp) <;> (repeat' split) <;> first | (simp; done) | (with_reducible rfl)

@[simp] theorem frame_writePort (p : PortId) (f : StoredFrame) :
    (writePort p f s).dev = s.dev ∧ (writePort p f s).timing = s.timing ∧ (writePort p f s).params = s.params ∧
    (writePort p f s).trunks = s.trunks ∧ (writePort p f s).span = s.span ∧ (writePort p f s).map = s.map ∧
    (writePort p f s).circuits = s.circuits ∧ (writePort p f s).moves = s.moves ∧ (writePort p f s).orders = s.orders ∧
    (writePort p f s).link = s.link ∧ (writePort p f s).tx = s.tx ∧ (writePort p f s).pending = s.pending := by
  repeat' apply And.intro
  all_goals
    unfold writePort
    (try simp) <;> (repeat' split) <;> first | (simp; done) | (with_reducible rfl)

@[simp] theorem frame_readPort (p : PortId) :
    (readPort p s).dev = s.dev ∧ (readPort p s).timing = s.timing ∧ (readPort p s).params = s.params ∧
    (readPort p s).trunks = s.trunks ∧ (readPort p s).span = s.span ∧ (readPort p s).map = s.map ∧
    (readPort p s).orders = s.orders ∧ (readPort p s).link = s.link ∧ (readPort p s).tx = s.tx ∧
    (readPort p s).pending = s.pending := by
  repeat' apply And.intro
  all_goals
    unfold readPort
    (try simp) <;> (repeat' split) <;> first | (simp; done) | (with_reducible rfl)

@[simp] theorem frame_handCodes (p : PortId) (l : List Byte) :
    (handCodes p l s).dev = s.dev ∧ (handCodes p l s).timing = s.timing ∧ (handCodes p l s).params = s.params ∧
    (handCodes p l s).trunks = s.trunks ∧ (handCodes p l s).sw = s.sw ∧ (handCodes p l s).line = s.line ∧
    (handCodes p l s).span = s.span ∧ (handCodes p l s).map = s.map ∧ (handCodes p l s).align = s.align ∧
    (handCodes p l s).orders = s.orders ∧ (handCodes p l s).link = s.link ∧ (handCodes p l s).mgmt = s.mgmt ∧
    (handCodes p l s).tx = s.tx ∧ (handCodes p l s).pending = s.pending := by
  unfold handCodes
  have hs {β : Type} (g : State → β) (k : TrunkId) (w : ∀ c x t, g (observeForward c x t) = g t) :=
    part_forEach g (multiframeCodes l) (fun x t => (circuitAt k x.1).elim t fun c => observeForward c x.2 t) s
      fun i t => part_elim g _ _ _ fun c => w c i.2 t
  have hl {β : Type} (g : State → β) (k : TrunkId) (w : ∀ c x t, g (observeCopper c x t) = g t) :=
    part_forEach g (multiframeCodes l) (fun x t => (circuitAt k x.1).elim t fun c => observeCopper c x.2 t) s
      fun i t => part_elim g _ _ _ fun c => w c i.2 t
  cases p with
  | sw k =>
    simp only
    exact ⟨hs State.dev k (by simp), hs State.timing k (by simp), hs State.params k (by simp),
        hs State.trunks k (by simp), hs State.sw k (by simp), hs State.line k (by simp), hs State.span k (by simp),
        hs State.map k (by simp), hs State.align k (by simp), hs State.orders k (by simp), hs State.link k (by simp),
        hs State.mgmt k (by simp), hs State.tx k (by simp), hs State.pending k (by simp)⟩
  | line k =>
    simp only
    split
    · simp
    · exact ⟨hl State.dev k (by simp), hl State.timing k (by simp), hl State.params k (by simp),
        hl State.trunks k (by simp), hl State.sw k (by simp), hl State.line k (by simp), hl State.span k (by simp),
        hl State.map k (by simp), hl State.align k (by simp), hl State.orders k (by simp), hl State.link k (by simp),
        hl State.mgmt k (by simp), hl State.tx k (by simp), hl State.pending k (by simp)⟩

@[simp] theorem frame_enterAligned (p : PortId) (l : List Bool) :
    (enterAligned p l s).dev = s.dev ∧ (enterAligned p l s).timing = s.timing ∧
    (enterAligned p l s).params = s.params ∧ (enterAligned p l s).trunks = s.trunks ∧
    (enterAligned p l s).span = s.span ∧ (enterAligned p l s).map = s.map ∧
    (enterAligned p l s).circuits = s.circuits ∧ (enterAligned p l s).moves = s.moves ∧
    (enterAligned p l s).orders = s.orders ∧ (enterAligned p l s).link = s.link ∧
    (enterAligned p l s).mgmt = s.mgmt ∧ (enterAligned p l s).tx = s.tx ∧ (enterAligned p l s).pending = s.pending := by
  repeat' apply And.intro
  all_goals
    unfold enterAligned
    (try simp) <;> (repeat' split) <;> first | (simp; done) | (with_reducible rfl)

@[simp] theorem frame_leaveAligned (p : PortId) (l : List Bool) :
    (leaveAligned p l s).dev = s.dev ∧ (leaveAligned p l s).params = s.params ∧ (leaveAligned p l s).span = s.span ∧
    (leaveAligned p l s).map = s.map ∧ (leaveAligned p l s).tx = s.tx ∧ (leaveAligned p l s).pending = s.pending := by
  repeat' apply And.intro
  all_goals
    unfold leaveAligned
    (try simp) <;> (repeat' split) <;> first | (simp; done) | (with_reducible rfl)

@[simp] theorem frame_portFrame (p : PortId) (b : Bool) (l : List Byte) :
    (portFrame p b l s).dev = s.dev ∧ (portFrame p b l s).params = s.params ∧ (portFrame p b l s).span = s.span ∧
    (portFrame p b l s).map = s.map ∧ (portFrame p b l s).tx = s.tx ∧ (portFrame p b l s).pending = s.pending := by
  repeat' apply And.intro
  all_goals
    unfold portFrame
    (try simp) <;> (repeat' split) <;> first | (simp; done) | (with_reducible rfl)

@[simp] theorem frame_portLoop (p : PortId) (b : Bool) (n : Nat) :
    (portLoop p b n s).dev = s.dev ∧ (portLoop p b n s).params = s.params ∧ (portLoop p b n s).span = s.span ∧
    (portLoop p b n s).map = s.map ∧ (portLoop p b n s).tx = s.tx ∧ (portLoop p b n s).pending = s.pending := by
  induction n generalizing s with
  | zero => simp [portLoop]
  | succ n ih =>
    repeat' apply And.intro
    all_goals
      unfold portLoop
      (try dsimp only) <;> (repeat' split) <;> first | (simp [ih]; done) | (split <;> simp [ih])

@[simp] theorem frame_receivePort (p : PortId) (l : List Byte) :
    (receivePort p l s).dev = s.dev ∧ (receivePort p l s).params = s.params ∧ (receivePort p l s).span = s.span ∧
    (receivePort p l s).map = s.map ∧ (receivePort p l s).tx = s.tx ∧ (receivePort p l s).pending = s.pending := by
  repeat' apply And.intro
  all_goals
    unfold receivePort
    (try simp) <;> (repeat' split) <;> first | (simp; done) | (with_reducible rfl)

@[simp] theorem frame_evaluatePortLos (p : PortId) (b : Bool) :
    (evaluatePortLos p b s).dev = s.dev ∧ (evaluatePortLos p b s).params = s.params ∧
    (evaluatePortLos p b s).span = s.span ∧ (evaluatePortLos p b s).map = s.map ∧ (evaluatePortLos p b s).tx = s.tx ∧
    (evaluatePortLos p b s).pending = s.pending := by
  repeat' apply And.intro
  all_goals
    unfold evaluatePortLos
    (try simp) <;> (repeat' split) <;> first | (simp; done) | (with_reducible rfl)

@[simp] theorem frame_emptyQueues :
    (emptyQueues s).dev = s.dev ∧ (emptyQueues s).timing = s.timing ∧ (emptyQueues s).params = s.params ∧
    (emptyQueues s).trunks = s.trunks ∧ (emptyQueues s).sw = s.sw ∧ (emptyQueues s).line = s.line ∧
    (emptyQueues s).span = s.span ∧ (emptyQueues s).map = s.map ∧ (emptyQueues s).circuits = s.circuits ∧
    (emptyQueues s).moves = s.moves ∧ (emptyQueues s).align = s.align ∧ (emptyQueues s).orders = s.orders ∧
    (emptyQueues s).mgmt = s.mgmt ∧ (emptyQueues s).tx = s.tx ∧ (emptyQueues s).pending = s.pending := by
  repeat' apply And.intro
  all_goals
    unfold emptyQueues
    (try simp) <;> (repeat' split) <;> first | (simp; done) | (with_reducible rfl)

@[simp] theorem frame_usableRose :
    (usableRose s).dev = s.dev ∧ (usableRose s).timing = s.timing ∧ (usableRose s).params = s.params ∧
    (usableRose s).trunks = s.trunks ∧ (usableRose s).sw = s.sw ∧ (usableRose s).line = s.line ∧
    (usableRose s).span = s.span ∧ (usableRose s).map = s.map ∧ (usableRose s).moves = s.moves ∧
    (usableRose s).align = s.align ∧ (usableRose s).orders = s.orders ∧ (usableRose s).link = s.link ∧
    (usableRose s).tx = s.tx ∧ (usableRose s).pending = s.pending := by
  repeat' apply And.intro
  all_goals
    unfold usableRose
    (try simp) <;> (repeat' split) <;> first | (simp; done) | (with_reducible rfl)

@[simp] theorem frame_usableFell :
    (usableFell s).dev = s.dev ∧ (usableFell s).timing = s.timing ∧ (usableFell s).params = s.params ∧
    (usableFell s).trunks = s.trunks ∧ (usableFell s).sw = s.sw ∧ (usableFell s).line = s.line ∧
    (usableFell s).span = s.span ∧ (usableFell s).map = s.map ∧ (usableFell s).tx = s.tx ∧
    (usableFell s).pending = s.pending := by
  repeat' apply And.intro
  all_goals
    unfold usableFell
    (try simp) <;> (repeat' split) <;> first | (simp; done) | (with_reducible rfl)

@[simp] theorem frame_refreshUsable :
    (refreshUsable s).dev = s.dev ∧ (refreshUsable s).timing = s.timing ∧ (refreshUsable s).params = s.params ∧
    (refreshUsable s).trunks = s.trunks ∧ (refreshUsable s).sw = s.sw ∧ (refreshUsable s).line = s.line ∧
    (refreshUsable s).map = s.map ∧ (refreshUsable s).tx = s.tx ∧ (refreshUsable s).pending = s.pending := by
  repeat' apply And.intro
  all_goals
    unfold refreshUsable
    (try simp) <;> (repeat' split) <;> first | (simp; done) | (with_reducible rfl)

@[simp] theorem frame_countUnlessRestart (e : Entry) :
    (countUnlessRestart e s).dev = s.dev ∧ (countUnlessRestart e s).timing = s.timing ∧
    (countUnlessRestart e s).params = s.params ∧ (countUnlessRestart e s).trunks = s.trunks ∧
    (countUnlessRestart e s).sw = s.sw ∧ (countUnlessRestart e s).line = s.line ∧
    (countUnlessRestart e s).span = s.span ∧ (countUnlessRestart e s).map = s.map ∧
    (countUnlessRestart e s).circuits = s.circuits ∧ (countUnlessRestart e s).moves = s.moves ∧
    (countUnlessRestart e s).align = s.align ∧ (countUnlessRestart e s).orders = s.orders ∧
    (countUnlessRestart e s).link = s.link ∧ (countUnlessRestart e s).tx = s.tx ∧
    (countUnlessRestart e s).pending = s.pending := by
  repeat' apply And.intro
  all_goals
    unfold countUnlessRestart
    (try simp) <;> (repeat' split) <;> first | (simp; done) | (with_reducible rfl)

@[simp] theorem frame_addPiece (a : SpanAsm) (r : Nat) (b : Bool) (l : List Byte) :
    (addPiece a r b l s).dev = s.dev ∧ (addPiece a r b l s).timing = s.timing ∧
    (addPiece a r b l s).params = s.params ∧ (addPiece a r b l s).trunks = s.trunks ∧
    (addPiece a r b l s).sw = s.sw ∧ (addPiece a r b l s).line = s.line ∧ (addPiece a r b l s).span = s.span ∧
    (addPiece a r b l s).map = s.map ∧ (addPiece a r b l s).circuits = s.circuits ∧
    (addPiece a r b l s).moves = s.moves ∧ (addPiece a r b l s).align = s.align ∧
    (addPiece a r b l s).orders = s.orders ∧ (addPiece a r b l s).link = s.link ∧ (addPiece a r b l s).tx = s.tx ∧
    (addPiece a r b l s).pending = s.pending := by
  repeat' apply And.intro
  all_goals
    unfold addPiece
    (try simp) <;> (repeat' split) <;> first | (simp; done) | (with_reducible rfl)

@[simp] theorem frame_placePiece (w : Word16) (b : Bool) (l : List Byte) :
    (placePiece w b l s).dev = s.dev ∧ (placePiece w b l s).timing = s.timing ∧
    (placePiece w b l s).params = s.params ∧ (placePiece w b l s).trunks = s.trunks ∧
    (placePiece w b l s).sw = s.sw ∧ (placePiece w b l s).line = s.line ∧ (placePiece w b l s).span = s.span ∧
    (placePiece w b l s).map = s.map ∧ (placePiece w b l s).circuits = s.circuits ∧
    (placePiece w b l s).moves = s.moves ∧ (placePiece w b l s).align = s.align ∧
    (placePiece w b l s).orders = s.orders ∧ (placePiece w b l s).link = s.link ∧ (placePiece w b l s).tx = s.tx ∧
    (placePiece w b l s).pending = s.pending := by
  repeat' apply And.intro
  all_goals
    unfold placePiece
    (try simp) <;> (repeat' split) <;> first | (simp; done) | (with_reducible rfl)

@[simp] theorem frame_leaveSpan (l : List Bool) :
    (leaveSpan l s).dev = s.dev ∧ (leaveSpan l s).timing = s.timing ∧ (leaveSpan l s).params = s.params ∧
    (leaveSpan l s).trunks = s.trunks ∧ (leaveSpan l s).sw = s.sw ∧ (leaveSpan l s).line = s.line ∧
    (leaveSpan l s).map = s.map ∧ (leaveSpan l s).tx = s.tx ∧ (leaveSpan l s).pending = s.pending := by
  repeat' apply And.intro
  all_goals
    unfold leaveSpan
    (try simp) <;> (repeat' split) <;> first | (simp; done) | (with_reducible rfl)

@[simp] theorem frame_evaluateSpanLos (b : Bool) :
    (evaluateSpanLos b s).dev = s.dev ∧ (evaluateSpanLos b s).timing = s.timing ∧
    (evaluateSpanLos b s).params = s.params ∧ (evaluateSpanLos b s).trunks = s.trunks ∧
    (evaluateSpanLos b s).sw = s.sw ∧ (evaluateSpanLos b s).line = s.line ∧ (evaluateSpanLos b s).map = s.map ∧
    (evaluateSpanLos b s).tx = s.tx ∧ (evaluateSpanLos b s).pending = s.pending := by
  repeat' apply And.intro
  all_goals
    unfold evaluateSpanLos
    (try simp) <;> (repeat' split) <;> first | (simp; done) | (with_reducible rfl)

@[simp] theorem frame_countSpanSlip :
    (countSpanSlip s).dev = s.dev ∧ (countSpanSlip s).timing = s.timing ∧ (countSpanSlip s).params = s.params ∧
    (countSpanSlip s).trunks = s.trunks ∧ (countSpanSlip s).sw = s.sw ∧ (countSpanSlip s).line = s.line ∧
    (countSpanSlip s).map = s.map ∧ (countSpanSlip s).circuits = s.circuits ∧ (countSpanSlip s).moves = s.moves ∧
    (countSpanSlip s).align = s.align ∧ (countSpanSlip s).orders = s.orders ∧ (countSpanSlip s).link = s.link ∧
    (countSpanSlip s).tx = s.tx ∧ (countSpanSlip s).pending = s.pending := by
  repeat' apply And.intro
  all_goals
    unfold countSpanSlip
    (try simp) <;> (repeat' split) <;> first | (simp; done) | (with_reducible rfl)

@[simp] theorem frame_writeSpan (o : SpanOctets) :
    (writeSpan o s).dev = s.dev ∧ (writeSpan o s).timing = s.timing ∧ (writeSpan o s).params = s.params ∧
    (writeSpan o s).trunks = s.trunks ∧ (writeSpan o s).sw = s.sw ∧ (writeSpan o s).line = s.line ∧
    (writeSpan o s).map = s.map ∧ (writeSpan o s).circuits = s.circuits ∧ (writeSpan o s).moves = s.moves ∧
    (writeSpan o s).orders = s.orders ∧ (writeSpan o s).link = s.link ∧ (writeSpan o s).tx = s.tx ∧
    (writeSpan o s).pending = s.pending := by
  repeat' apply And.intro
  all_goals
    unfold writeSpan
    (try simp) <;> (repeat' split) <;> first | (simp; done) | (with_reducible rfl)

@[simp] theorem frame_readSpan :
    (readSpan s).dev = s.dev ∧ (readSpan s).timing = s.timing ∧ (readSpan s).params = s.params ∧
    (readSpan s).trunks = s.trunks ∧ (readSpan s).sw = s.sw ∧ (readSpan s).line = s.line ∧ (readSpan s).map = s.map ∧
    (readSpan s).orders = s.orders ∧ (readSpan s).link = s.link ∧ (readSpan s).tx = s.tx ∧
    (readSpan s).pending = s.pending := by
  repeat' apply And.intro
  all_goals
    unfold readSpan
    (try simp) <;> (repeat' split) <;> first | (simp; done) | (with_reducible rfl)

@[simp] theorem frame_takeErrored :
    (takeErrored s).dev = s.dev ∧ (takeErrored s).timing = s.timing ∧ (takeErrored s).params = s.params ∧
    (takeErrored s).trunks = s.trunks ∧ (takeErrored s).sw = s.sw ∧ (takeErrored s).line = s.line ∧
    (takeErrored s).map = s.map ∧ (takeErrored s).tx = s.tx ∧ (takeErrored s).pending = s.pending := by
  repeat' apply And.intro
  all_goals
    unfold takeErrored
    (try simp) <;> (repeat' split) <;> first | (simp; done) | (with_reducible rfl)

@[simp] theorem frame_takeStatus (w : Word16) (b : Byte) :
    (takeStatus w b s).dev = s.dev ∧ (takeStatus w b s).timing = s.timing ∧ (takeStatus w b s).params = s.params ∧
    (takeStatus w b s).trunks = s.trunks ∧ (takeStatus w b s).sw = s.sw ∧ (takeStatus w b s).line = s.line ∧
    (takeStatus w b s).map = s.map ∧ (takeStatus w b s).tx = s.tx ∧ (takeStatus w b s).pending = s.pending := by
  repeat' apply And.intro
  all_goals
    unfold takeStatus
    (try simp) <;> (repeat' split) <;> first | (simp; done) | (with_reducible rfl)

@[simp] theorem frame_takePosition (l : List Byte) :
    (takePosition l s).dev = s.dev ∧ (takePosition l s).timing = s.timing ∧ (takePosition l s).params = s.params ∧
    (takePosition l s).trunks = s.trunks ∧ (takePosition l s).sw = s.sw ∧ (takePosition l s).line = s.line ∧
    (takePosition l s).span = s.span ∧ (takePosition l s).map = s.map ∧ (takePosition l s).circuits = s.circuits ∧
    (takePosition l s).moves = s.moves ∧ (takePosition l s).align = s.align ∧ (takePosition l s).orders = s.orders ∧
    (takePosition l s).tx = s.tx ∧ (takePosition l s).pending = s.pending := by
  repeat' apply And.intro
  all_goals
    unfold takePosition
    (try simp) <;> (repeat' split) <;> first | (simp; done) | (with_reducible rfl)

@[simp] theorem frame_handSpanCodes (w : Word16) (l : List Byte) :
    (handSpanCodes w l s).dev = s.dev ∧ (handSpanCodes w l s).timing = s.timing ∧
    (handSpanCodes w l s).params = s.params ∧ (handSpanCodes w l s).trunks = s.trunks ∧
    (handSpanCodes w l s).sw = s.sw ∧ (handSpanCodes w l s).line = s.line ∧ (handSpanCodes w l s).span = s.span ∧
    (handSpanCodes w l s).map = s.map ∧ (handSpanCodes w l s).align = s.align ∧
    (handSpanCodes w l s).orders = s.orders ∧ (handSpanCodes w l s).link = s.link ∧
    (handSpanCodes w l s).mgmt = s.mgmt ∧ (handSpanCodes w l s).tx = s.tx ∧ (handSpanCodes w l s).pending = s.pending := by
  unfold handSpanCodes
  have h {β : Type} (g : State → β) (k : ∀ c x t, g (observeSpan c w x t) = g t) :=
    part_forEach g (sectionCodes w l) (fun x t => (t.map.directory.get x.1).elim t fun c => observeSpan c w x.2 t) s
      fun i t => part_elim g _ _ _ fun c => k c i.2 t
  exact ⟨h State.dev (by simp), h State.timing (by simp), h State.params (by simp),
        h State.trunks (by simp), h State.sw (by simp), h State.line (by simp), h State.span (by simp),
        h State.map (by simp), h State.align (by simp), h State.orders (by simp), h State.link (by simp),
        h State.mgmt (by simp), h State.tx (by simp), h State.pending (by simp)⟩

@[simp] theorem frame_takeSpanFrame (l : List Byte) :
    (takeSpanFrame l s).dev = s.dev ∧ (takeSpanFrame l s).timing = s.timing ∧ (takeSpanFrame l s).params = s.params ∧
    (takeSpanFrame l s).trunks = s.trunks ∧ (takeSpanFrame l s).sw = s.sw ∧ (takeSpanFrame l s).line = s.line ∧
    (takeSpanFrame l s).map = s.map ∧ (takeSpanFrame l s).tx = s.tx ∧ (takeSpanFrame l s).pending = s.pending := by
  repeat' apply And.intro
  all_goals
    unfold takeSpanFrame
    (try simp) <;> (repeat' split) <;> first | (simp; done) | (with_reducible rfl)

@[simp] theorem frame_spanFrame (l : List Byte) :
    (spanFrame l s).dev = s.dev ∧ (spanFrame l s).timing = s.timing ∧ (spanFrame l s).params = s.params ∧
    (spanFrame l s).trunks = s.trunks ∧ (spanFrame l s).sw = s.sw ∧ (spanFrame l s).line = s.line ∧
    (spanFrame l s).map = s.map ∧ (spanFrame l s).tx = s.tx ∧ (spanFrame l s).pending = s.pending := by
  repeat' apply And.intro
  all_goals
    unfold spanFrame
    (try simp) <;> (repeat' split) <;> first | (simp; done) | (with_reducible rfl)

@[simp] theorem frame_enterSpan (l : List Bool) :
    (enterSpan l s).dev = s.dev ∧ (enterSpan l s).timing = s.timing ∧ (enterSpan l s).params = s.params ∧
    (enterSpan l s).trunks = s.trunks ∧ (enterSpan l s).sw = s.sw ∧ (enterSpan l s).line = s.line ∧
    (enterSpan l s).map = s.map ∧ (enterSpan l s).circuits = s.circuits ∧ (enterSpan l s).moves = s.moves ∧
    (enterSpan l s).orders = s.orders ∧ (enterSpan l s).link = s.link ∧ (enterSpan l s).mgmt = s.mgmt ∧
    (enterSpan l s).tx = s.tx ∧ (enterSpan l s).pending = s.pending := by
  repeat' apply And.intro
  all_goals
    unfold enterSpan
    (try simp) <;> (repeat' split) <;> first | (simp; done) | (with_reducible rfl)

@[simp] theorem frame_spanLoop (n : Nat) :
    (spanLoop n s).dev = s.dev ∧ (spanLoop n s).timing = s.timing ∧ (spanLoop n s).params = s.params ∧
    (spanLoop n s).trunks = s.trunks ∧ (spanLoop n s).sw = s.sw ∧ (spanLoop n s).line = s.line ∧
    (spanLoop n s).map = s.map ∧ (spanLoop n s).tx = s.tx ∧ (spanLoop n s).pending = s.pending := by
  induction n generalizing s with
  | zero => simp [spanLoop]
  | succ n ih =>
    repeat' apply And.intro
    all_goals
      unfold spanLoop
      (try dsimp only) <;> (repeat' split) <;> first | (simp [ih]; done) | (split <;> simp [ih])

@[simp] theorem frame_receiveSpan (l : List Byte) :
    (receiveSpan l s).dev = s.dev ∧ (receiveSpan l s).timing = s.timing ∧ (receiveSpan l s).params = s.params ∧
    (receiveSpan l s).trunks = s.trunks ∧ (receiveSpan l s).sw = s.sw ∧ (receiveSpan l s).line = s.line ∧
    (receiveSpan l s).map = s.map ∧ (receiveSpan l s).tx = s.tx ∧ (receiveSpan l s).pending = s.pending := by
  repeat' apply And.intro
  all_goals
    unfold receiveSpan
    (try simp) <;> (repeat' split) <;> first | (simp; done) | (with_reducible rfl)

@[simp] theorem frame_endDegradeInterval :
    (endDegradeInterval s).dev = s.dev ∧ (endDegradeInterval s).timing = s.timing ∧
    (endDegradeInterval s).params = s.params ∧ (endDegradeInterval s).trunks = s.trunks ∧
    (endDegradeInterval s).sw = s.sw ∧ (endDegradeInterval s).line = s.line ∧ (endDegradeInterval s).map = s.map ∧
    (endDegradeInterval s).tx = s.tx ∧ (endDegradeInterval s).pending = s.pending := by
  repeat' apply And.intro
  all_goals
    unfold endDegradeInterval
    (try simp) <;> (repeat' split) <;> first | (simp; done) | (with_reducible rfl)

@[simp] theorem frame_openSlotEntry :
    (openSlotEntry s).dev = s.dev ∧ (openSlotEntry s).timing = s.timing ∧ (openSlotEntry s).params = s.params ∧
    (openSlotEntry s).trunks = s.trunks ∧ (openSlotEntry s).sw = s.sw ∧ (openSlotEntry s).line = s.line ∧
    (openSlotEntry s).span = s.span ∧ (openSlotEntry s).map = s.map ∧ (openSlotEntry s).circuits = s.circuits ∧
    (openSlotEntry s).moves = s.moves ∧ (openSlotEntry s).align = s.align ∧ (openSlotEntry s).orders = s.orders ∧
    (openSlotEntry s).link = s.link ∧ (openSlotEntry s).tx = s.tx ∧ (openSlotEntry s).pending = s.pending := by
  repeat' apply And.intro
  all_goals
    unfold openSlotEntry
    (try simp) <;> (repeat' split) <;> first | (simp; done) | (with_reducible rfl)

@[simp] theorem frame_lockTiming :
    (lockTiming s).dev = s.dev ∧ (lockTiming s).params = s.params ∧ (lockTiming s).trunks = s.trunks ∧
    (lockTiming s).sw = s.sw ∧ (lockTiming s).line = s.line ∧ (lockTiming s).span = s.span ∧
    (lockTiming s).map = s.map ∧ (lockTiming s).circuits = s.circuits ∧ (lockTiming s).moves = s.moves ∧
    (lockTiming s).align = s.align ∧ (lockTiming s).orders = s.orders ∧ (lockTiming s).link = s.link ∧
    (lockTiming s).mgmt = s.mgmt ∧ (lockTiming s).tx = s.tx ∧ (lockTiming s).pending = s.pending := by
  repeat' apply And.intro
  all_goals
    unfold lockTiming
    (try simp) <;> (repeat' split) <;> first | (simp; done) | (with_reducible rfl)

@[simp] theorem frame_completeRestore (c : CircuitId) :
    (completeRestore c s).dev = s.dev ∧ (completeRestore c s).timing = s.timing ∧
    (completeRestore c s).params = s.params ∧ (completeRestore c s).trunks = s.trunks ∧
    (completeRestore c s).sw = s.sw ∧ (completeRestore c s).line = s.line ∧ (completeRestore c s).span = s.span ∧
    (completeRestore c s).map = s.map ∧ (completeRestore c s).moves = s.moves ∧
    (completeRestore c s).align = s.align ∧ (completeRestore c s).orders = s.orders ∧
    (completeRestore c s).link = s.link ∧ (completeRestore c s).mgmt = s.mgmt ∧ (completeRestore c s).tx = s.tx ∧
    (completeRestore c s).pending = s.pending := by
  repeat' apply And.intro
  all_goals
    unfold completeRestore
    (try simp) <;> (repeat' split) <;> first | (simp; done) | (with_reducible rfl)

@[simp] theorem frame_endFreeze (c : CircuitId) :
    (endFreeze c s).dev = s.dev ∧ (endFreeze c s).timing = s.timing ∧ (endFreeze c s).params = s.params ∧
    (endFreeze c s).trunks = s.trunks ∧ (endFreeze c s).sw = s.sw ∧ (endFreeze c s).line = s.line ∧
    (endFreeze c s).span = s.span ∧ (endFreeze c s).map = s.map ∧ (endFreeze c s).moves = s.moves ∧
    (endFreeze c s).align = s.align ∧ (endFreeze c s).orders = s.orders ∧ (endFreeze c s).link = s.link ∧
    (endFreeze c s).mgmt = s.mgmt ∧ (endFreeze c s).tx = s.tx ∧ (endFreeze c s).pending = s.pending := by
  repeat' apply And.intro
  all_goals
    unfold endFreeze
    (try simp) <;> (repeat' split) <;> first | (simp; done) | (with_reducible rfl)

@[simp] theorem frame_exhaustTries (m : MoveId) (k : ReqKind) :
    (exhaustTries m k s).dev = s.dev ∧ (exhaustTries m k s).timing = s.timing ∧
    (exhaustTries m k s).params = s.params ∧ (exhaustTries m k s).trunks = s.trunks ∧
    (exhaustTries m k s).sw = s.sw ∧ (exhaustTries m k s).line = s.line ∧ (exhaustTries m k s).span = s.span ∧
    (exhaustTries m k s).map = s.map ∧ (exhaustTries m k s).tx = s.tx ∧ (exhaustTries m k s).pending = s.pending := by
  repeat' apply And.intro
  all_goals
    unfold exhaustTries
    (try simp) <;> (repeat' split) <;> first | (simp; done) | (with_reducible rfl)

@[simp] theorem frame_repeatRequest (m : MoveId) :
    (repeatRequest m s).dev = s.dev ∧ (repeatRequest m s).timing = s.timing ∧ (repeatRequest m s).params = s.params ∧
    (repeatRequest m s).trunks = s.trunks ∧ (repeatRequest m s).sw = s.sw ∧ (repeatRequest m s).line = s.line ∧
    (repeatRequest m s).span = s.span ∧ (repeatRequest m s).map = s.map ∧ (repeatRequest m s).tx = s.tx ∧
    (repeatRequest m s).pending = s.pending := by
  repeat' apply And.intro
  all_goals
    unfold repeatRequest
    (try simp) <;> (repeat' split) <;> first | (simp; done) | (with_reducible rfl)

@[simp] theorem frame_expireProgress (m : MoveId) :
    (expireProgress m s).dev = s.dev ∧ (expireProgress m s).timing = s.timing ∧
    (expireProgress m s).params = s.params ∧ (expireProgress m s).trunks = s.trunks ∧
    (expireProgress m s).sw = s.sw ∧ (expireProgress m s).line = s.line ∧ (expireProgress m s).span = s.span ∧
    (expireProgress m s).map = s.map ∧ (expireProgress m s).tx = s.tx ∧ (expireProgress m s).pending = s.pending := by
  repeat' apply And.intro
  all_goals
    unfold expireProgress
    (try simp) <;> (repeat' split) <;> first | (simp; done) | (with_reducible rfl)

@[simp] theorem frame_expireQuiet (m : MoveId) :
    (expireQuiet m s).dev = s.dev ∧ (expireQuiet m s).timing = s.timing ∧ (expireQuiet m s).params = s.params ∧
    (expireQuiet m s).trunks = s.trunks ∧ (expireQuiet m s).sw = s.sw ∧ (expireQuiet m s).line = s.line ∧
    (expireQuiet m s).span = s.span ∧ (expireQuiet m s).map = s.map ∧ (expireQuiet m s).orders = s.orders ∧
    (expireQuiet m s).tx = s.tx ∧ (expireQuiet m s).pending = s.pending := by
  repeat' apply And.intro
  all_goals
    unfold expireQuiet
    (try simp) <;> (repeat' split) <;> first | (simp; done) | (with_reducible rfl)

@[simp] theorem frame_expireValidity (m : MoveId) :
    (expireValidity m s).dev = s.dev ∧ (expireValidity m s).timing = s.timing ∧
    (expireValidity m s).params = s.params ∧ (expireValidity m s).trunks = s.trunks ∧
    (expireValidity m s).sw = s.sw ∧ (expireValidity m s).line = s.line ∧ (expireValidity m s).span = s.span ∧
    (expireValidity m s).map = s.map ∧ (expireValidity m s).orders = s.orders ∧ (expireValidity m s).link = s.link ∧
    (expireValidity m s).mgmt = s.mgmt ∧ (expireValidity m s).tx = s.tx ∧ (expireValidity m s).pending = s.pending := by
  repeat' apply And.intro
  all_goals
    unfold expireValidity
    (try simp) <;> (repeat' split) <;> first | (simp; done) | (with_reducible rfl)

@[simp] theorem frame_expireSoak (m : MoveId) :
    (expireSoak m s).dev = s.dev ∧ (expireSoak m s).timing = s.timing ∧ (expireSoak m s).params = s.params ∧
    (expireSoak m s).trunks = s.trunks ∧ (expireSoak m s).sw = s.sw ∧ (expireSoak m s).line = s.line ∧
    (expireSoak m s).span = s.span ∧ (expireSoak m s).map = s.map ∧ (expireSoak m s).circuits = s.circuits ∧
    (expireSoak m s).align = s.align ∧ (expireSoak m s).orders = s.orders ∧ (expireSoak m s).tx = s.tx ∧
    (expireSoak m s).pending = s.pending := by
  repeat' apply And.intro
  all_goals
    unfold expireSoak
    (try simp) <;> (repeat' split) <;> first | (simp; done) | (with_reducible rfl)

@[simp] theorem frame_expireDeadline (n : Byte) :
    (expireDeadline n s).dev = s.dev ∧ (expireDeadline n s).timing = s.timing ∧
    (expireDeadline n s).params = s.params ∧ (expireDeadline n s).trunks = s.trunks ∧
    (expireDeadline n s).sw = s.sw ∧ (expireDeadline n s).line = s.line ∧ (expireDeadline n s).span = s.span ∧
    (expireDeadline n s).map = s.map ∧ (expireDeadline n s).circuits = s.circuits ∧
    (expireDeadline n s).moves = s.moves ∧ (expireDeadline n s).align = s.align ∧
    (expireDeadline n s).link = s.link ∧ (expireDeadline n s).tx = s.tx ∧ (expireDeadline n s).pending = s.pending := by
  repeat' apply And.intro
  all_goals
    unfold expireDeadline
    (try simp) <;> (repeat' split) <;> first | (simp; done) | (with_reducible rfl)

@[simp] theorem frame_expireProxy :
    (expireProxy s).dev = s.dev ∧ (expireProxy s).timing = s.timing ∧ (expireProxy s).params = s.params ∧
    (expireProxy s).trunks = s.trunks ∧ (expireProxy s).sw = s.sw ∧ (expireProxy s).line = s.line ∧
    (expireProxy s).span = s.span ∧ (expireProxy s).map = s.map ∧ (expireProxy s).circuits = s.circuits ∧
    (expireProxy s).moves = s.moves ∧ (expireProxy s).align = s.align ∧ (expireProxy s).orders = s.orders ∧
    (expireProxy s).link = s.link ∧ (expireProxy s).tx = s.tx ∧ (expireProxy s).pending = s.pending := by
  repeat' apply And.intro
  all_goals
    unfold expireProxy
    (try simp) <;> (repeat' split) <;> first | (simp; done) | (with_reducible rfl)

@[simp] theorem frame_promoteOne :
    (promoteOne s).dev = s.dev ∧ (promoteOne s).timing = s.timing ∧ (promoteOne s).params = s.params ∧
    (promoteOne s).trunks = s.trunks ∧ (promoteOne s).sw = s.sw ∧ (promoteOne s).line = s.line ∧
    (promoteOne s).span = s.span ∧ (promoteOne s).map = s.map ∧ (promoteOne s).circuits = s.circuits ∧
    (promoteOne s).moves = s.moves ∧ (promoteOne s).align = s.align ∧ (promoteOne s).link = s.link ∧
    (promoteOne s).mgmt = s.mgmt ∧ (promoteOne s).tx = s.tx ∧ (promoteOne s).pending = s.pending := by
  repeat' apply And.intro
  all_goals
    unfold promoteOne
    (try simp) <;> (repeat' split) <;> first | (simp; done) | (with_reducible rfl)

@[simp] theorem frame_promotionPart :
    (promotionPart s).dev = s.dev ∧ (promotionPart s).timing = s.timing ∧ (promotionPart s).params = s.params ∧
    (promotionPart s).trunks = s.trunks ∧ (promotionPart s).sw = s.sw ∧ (promotionPart s).line = s.line ∧
    (promotionPart s).span = s.span ∧ (promotionPart s).map = s.map ∧ (promotionPart s).circuits = s.circuits ∧
    (promotionPart s).moves = s.moves ∧ (promotionPart s).align = s.align ∧ (promotionPart s).link = s.link ∧
    (promotionPart s).mgmt = s.mgmt ∧ (promotionPart s).tx = s.tx ∧ (promotionPart s).pending = s.pending := by
  repeat' apply And.intro
  all_goals
    unfold promotionPart
    (try simp) <;> (repeat' split) <;> first | (simp; done) | (with_reducible rfl)

@[simp] theorem frame_resolveEntry (n : Byte) (d : Dir) (c : CircuitId) :
    (resolveEntry n d c s).dev = s.dev ∧ (resolveEntry n d c s).timing = s.timing ∧
    (resolveEntry n d c s).params = s.params ∧ (resolveEntry n d c s).trunks = s.trunks ∧
    (resolveEntry n d c s).sw = s.sw ∧ (resolveEntry n d c s).line = s.line ∧ (resolveEntry n d c s).span = s.span ∧
    (resolveEntry n d c s).map = s.map ∧ (resolveEntry n d c s).moves = s.moves ∧
    (resolveEntry n d c s).align = s.align ∧ (resolveEntry n d c s).link = s.link ∧
    (resolveEntry n d c s).tx = s.tx ∧ (resolveEntry n d c s).pending = s.pending := by
  repeat' apply And.intro
  all_goals
    unfold resolveEntry
    (try simp) <;> (repeat' split) <;> first | (simp; done) | (with_reducible rfl)

@[simp] theorem frame_resolveOrder (n : Byte) :
    (resolveOrder n s).dev = s.dev ∧ (resolveOrder n s).timing = s.timing ∧ (resolveOrder n s).params = s.params ∧
    (resolveOrder n s).trunks = s.trunks ∧ (resolveOrder n s).sw = s.sw ∧ (resolveOrder n s).line = s.line ∧
    (resolveOrder n s).span = s.span ∧ (resolveOrder n s).map = s.map ∧ (resolveOrder n s).moves = s.moves ∧
    (resolveOrder n s).align = s.align ∧ (resolveOrder n s).link = s.link ∧ (resolveOrder n s).tx = s.tx ∧
    (resolveOrder n s).pending = s.pending := by
  repeat' apply And.intro
  all_goals
    unfold resolveOrder
    (try simp [part_forEach State.dev, part_forEach State.timing, part_forEach State.params,
        part_forEach State.trunks, part_forEach State.sw, part_forEach State.line, part_forEach State.span,
        part_forEach State.map, part_forEach State.moves, part_forEach State.align, part_forEach State.link,
        part_forEach State.tx, part_forEach State.pending]) <;> (repeat' split) <;> simp [part_forEach State.dev, part_forEach State.timing, part_forEach State.params,
        part_forEach State.trunks, part_forEach State.sw, part_forEach State.line, part_forEach State.span,
        part_forEach State.map, part_forEach State.moves, part_forEach State.align, part_forEach State.link,
        part_forEach State.tx, part_forEach State.pending]

@[simp] theorem frame_resolutionPart :
    (resolutionPart s).dev = s.dev ∧ (resolutionPart s).timing = s.timing ∧ (resolutionPart s).params = s.params ∧
    (resolutionPart s).trunks = s.trunks ∧ (resolutionPart s).sw = s.sw ∧ (resolutionPart s).line = s.line ∧
    (resolutionPart s).span = s.span ∧ (resolutionPart s).map = s.map ∧ (resolutionPart s).moves = s.moves ∧
    (resolutionPart s).align = s.align ∧ (resolutionPart s).link = s.link ∧ (resolutionPart s).tx = s.tx ∧
    (resolutionPart s).pending = s.pending := by
  repeat' apply And.intro
  all_goals
    unfold resolutionPart
    (try simp [part_forEach State.dev, part_forEach State.timing, part_forEach State.params,
        part_forEach State.trunks, part_forEach State.sw, part_forEach State.line, part_forEach State.span,
        part_forEach State.map, part_forEach State.moves, part_forEach State.align, part_forEach State.link,
        part_forEach State.tx, part_forEach State.pending]) <;> (repeat' split) <;> simp [part_forEach State.dev, part_forEach State.timing, part_forEach State.params,
        part_forEach State.trunks, part_forEach State.sw, part_forEach State.line, part_forEach State.span,
        part_forEach State.map, part_forEach State.moves, part_forEach State.align, part_forEach State.link,
        part_forEach State.tx, part_forEach State.pending]

@[simp] theorem frame_passTurn :
    (passTurn s).dev = s.dev ∧ (passTurn s).timing = s.timing ∧ (passTurn s).params = s.params ∧
    (passTurn s).trunks = s.trunks ∧ (passTurn s).sw = s.sw ∧ (passTurn s).line = s.line ∧
    (passTurn s).span = s.span ∧ (passTurn s).map = s.map ∧ (passTurn s).circuits = s.circuits ∧
    (passTurn s).moves = s.moves ∧ (passTurn s).align = s.align ∧ (passTurn s).link = s.link ∧
    (passTurn s).mgmt = s.mgmt ∧ (passTurn s).tx = s.tx ∧ (passTurn s).pending = s.pending := by
  repeat' apply And.intro
  all_goals
    unfold passTurn
    (try simp) <;> (repeat' split) <;> first | (simp; done) | (with_reducible rfl)

@[simp] theorem frame_admitInto (m : MoveId) (n : Byte) (d : Dir) (c : CircuitId) :
    (admitInto m n d c s).dev = s.dev ∧ (admitInto m n d c s).timing = s.timing ∧ (admitInto m n d c s).params = s.params ∧
    (admitInto m n d c s).trunks = s.trunks ∧ (admitInto m n d c s).sw = s.sw ∧ (admitInto m n d c s).line = s.line ∧
    (admitInto m n d c s).span = s.span ∧ (admitInto m n d c s).map = s.map ∧ (admitInto m n d c s).align = s.align ∧
    (admitInto m n d c s).tx = s.tx ∧ (admitInto m n d c s).pending = s.pending := by
  repeat' apply And.intro
  all_goals
    unfold admitInto
    (try simp) <;> (repeat' split) <;> first | (simp; done) | (with_reducible rfl)

@[simp] theorem frame_grantLoop (f k : Nat) :
    (grantLoop f k s).dev = s.dev ∧ (grantLoop f k s).timing = s.timing ∧ (grantLoop f k s).params = s.params ∧
    (grantLoop f k s).trunks = s.trunks ∧ (grantLoop f k s).sw = s.sw ∧ (grantLoop f k s).line = s.line ∧
    (grantLoop f k s).span = s.span ∧ (grantLoop f k s).map = s.map ∧ (grantLoop f k s).align = s.align ∧
    (grantLoop f k s).tx = s.tx ∧ (grantLoop f k s).pending = s.pending := by
  induction f generalizing s k with
  | zero => simp [grantLoop]
  | succ f ih =>
    repeat' apply And.intro
    all_goals
      unfold grantLoop
      (try dsimp only) <;> (repeat' split) <;> first | (simp [ih]; done) | (split <;> simp [ih])

@[simp] theorem frame_grantPart :
    (grantPart s).dev = s.dev ∧ (grantPart s).timing = s.timing ∧ (grantPart s).params = s.params ∧
    (grantPart s).trunks = s.trunks ∧ (grantPart s).sw = s.sw ∧ (grantPart s).line = s.line ∧
    (grantPart s).span = s.span ∧ (grantPart s).map = s.map ∧ (grantPart s).align = s.align ∧
    (grantPart s).tx = s.tx ∧ (grantPart s).pending = s.pending := by
  repeat' apply And.intro
  all_goals
    unfold grantPart
    (try simp) <;> (repeat' split) <;> first | (simp; done) | (with_reducible rfl)

@[simp] theorem frame_clearGroup (g : Byte) :
    (clearGroup g s).dev = s.dev ∧ (clearGroup g s).timing = s.timing ∧ (clearGroup g s).params = s.params ∧
    (clearGroup g s).trunks = s.trunks ∧ (clearGroup g s).map = s.map ∧ (clearGroup g s).circuits = s.circuits ∧
    (clearGroup g s).moves = s.moves ∧ (clearGroup g s).align = s.align ∧ (clearGroup g s).orders = s.orders ∧
    (clearGroup g s).tx = s.tx ∧ (clearGroup g s).pending = s.pending := by
  repeat' apply And.intro
  all_goals
    unfold clearGroup
    (try simp) <;> (repeat' split) <;> first | (simp; done) | (with_reducible rfl)

@[simp] theorem frame_endSlotCell :
    (endSlotCell s).dev = s.dev ∧ (endSlotCell s).timing = s.timing ∧ (endSlotCell s).params = s.params ∧
    (endSlotCell s).trunks = s.trunks ∧ (endSlotCell s).sw = s.sw ∧ (endSlotCell s).line = s.line ∧
    (endSlotCell s).span = s.span ∧ (endSlotCell s).map = s.map ∧ (endSlotCell s).circuits = s.circuits ∧
    (endSlotCell s).moves = s.moves ∧ (endSlotCell s).align = s.align ∧ (endSlotCell s).orders = s.orders ∧
    (endSlotCell s).link = s.link ∧ (endSlotCell s).tx = s.tx ∧ (endSlotCell s).pending = s.pending := by
  repeat' apply And.intro
  all_goals
    unfold endSlotCell
    (try simp) <;> (repeat' split) <;> first | (simp; done) | (with_reducible rfl)

@[simp] theorem frame_takeResponse (t x : Byte) (b : List Byte) :
    (takeResponse t x b s).dev = s.dev ∧ (takeResponse t x b s).timing = s.timing ∧
    (takeResponse t x b s).params = s.params ∧ (takeResponse t x b s).trunks = s.trunks ∧
    (takeResponse t x b s).sw = s.sw ∧ (takeResponse t x b s).line = s.line ∧ (takeResponse t x b s).span = s.span ∧
    (takeResponse t x b s).map = s.map ∧ (takeResponse t x b s).circuits = s.circuits ∧
    (takeResponse t x b s).moves = s.moves ∧ (takeResponse t x b s).align = s.align ∧
    (takeResponse t x b s).orders = s.orders ∧ (takeResponse t x b s).link = s.link ∧
    (takeResponse t x b s).tx = s.tx ∧ (takeResponse t x b s).pending = s.pending := by
  repeat' apply And.intro
  all_goals
    unfold takeResponse
    (try simp) <;> (repeat' split) <;> first | (simp; done) | (with_reducible rfl)

@[simp] theorem frame_forwardRequest (t c : Byte) (b : List Byte) :
    (forwardRequest t c b s).dev = s.dev ∧ (forwardRequest t c b s).timing = s.timing ∧
    (forwardRequest t c b s).params = s.params ∧ (forwardRequest t c b s).trunks = s.trunks ∧
    (forwardRequest t c b s).sw = s.sw ∧ (forwardRequest t c b s).line = s.line ∧
    (forwardRequest t c b s).span = s.span ∧ (forwardRequest t c b s).map = s.map ∧
    (forwardRequest t c b s).circuits = s.circuits ∧ (forwardRequest t c b s).moves = s.moves ∧
    (forwardRequest t c b s).align = s.align ∧ (forwardRequest t c b s).orders = s.orders ∧
    (forwardRequest t c b s).link = s.link ∧ (forwardRequest t c b s).tx = s.tx ∧
    (forwardRequest t c b s).pending = s.pending := by
  repeat' apply And.intro
  all_goals
    unfold forwardRequest
    (try simp) <;> (repeat' split) <;> first | (simp; done) | (with_reducible rfl)

@[simp] theorem frame_writeSlot (c : CircuitId) (sl : Option SlotId) :
    (writeSlot c sl s).dev = s.dev ∧ (writeSlot c sl s).timing = s.timing ∧ (writeSlot c sl s).params = s.params ∧
    (writeSlot c sl s).trunks = s.trunks ∧ (writeSlot c sl s).sw = s.sw ∧ (writeSlot c sl s).line = s.line ∧
    (writeSlot c sl s).span = s.span ∧ (writeSlot c sl s).align = s.align ∧ (writeSlot c sl s).orders = s.orders ∧
    (writeSlot c sl s).link = s.link ∧ (writeSlot c sl s).mgmt = s.mgmt ∧ (writeSlot c sl s).tx = s.tx ∧
    (writeSlot c sl s).pending = s.pending := by
  repeat' apply And.intro
  all_goals
    unfold writeSlot
    (try simp) <;> (repeat' split) <;> first | (simp; done) | (with_reducible rfl)

@[simp] theorem frame_fillCircuit (sl : SlotId) (p : Policy) (c : CircuitId) :
    (fillCircuit sl p c s).dev = s.dev ∧ (fillCircuit sl p c s).timing = s.timing ∧
    (fillCircuit sl p c s).params = s.params ∧ (fillCircuit sl p c s).trunks = s.trunks ∧
    (fillCircuit sl p c s).sw = s.sw ∧ (fillCircuit sl p c s).line = s.line ∧ (fillCircuit sl p c s).span = s.span ∧
    (fillCircuit sl p c s).align = s.align ∧ (fillCircuit sl p c s).orders = s.orders ∧
    (fillCircuit sl p c s).link = s.link ∧ (fillCircuit sl p c s).mgmt = s.mgmt ∧ (fillCircuit sl p c s).tx = s.tx ∧
    (fillCircuit sl p c s).pending = s.pending := by
  repeat' apply And.intro
  all_goals
    unfold fillCircuit
    (try simp) <;> (repeat' split) <;> first | (simp; done) | (with_reducible rfl)

@[simp] theorem frame_completeSettle (k : TrunkId) :
    (completeSettle k s).dev = s.dev ∧ (completeSettle k s).timing = s.timing ∧
    (completeSettle k s).params = s.params ∧ (completeSettle k s).sw = s.sw ∧ (completeSettle k s).line = s.line ∧
    (completeSettle k s).span = s.span ∧ (completeSettle k s).map = s.map ∧
    (completeSettle k s).circuits = s.circuits ∧ (completeSettle k s).moves = s.moves ∧
    (completeSettle k s).align = s.align ∧ (completeSettle k s).orders = s.orders ∧
    (completeSettle k s).link = s.link ∧ (completeSettle k s).tx = s.tx ∧ (completeSettle k s).pending = s.pending := by
  repeat' apply And.intro
  all_goals
    unfold completeSettle
    (try simp) <;> (repeat' split) <;> first | (simp; done) | (with_reducible rfl)

@[simp] theorem frame_startRunning :
    (startRunning s).timing = s.timing ∧ (startRunning s).params = s.params ∧ (startRunning s).trunks = s.trunks ∧
    (startRunning s).sw = s.sw ∧ (startRunning s).line = s.line ∧ (startRunning s).span = s.span ∧
    (startRunning s).map = s.map ∧ (startRunning s).circuits = s.circuits ∧ (startRunning s).moves = s.moves ∧
    (startRunning s).align = s.align ∧ (startRunning s).orders = s.orders ∧ (startRunning s).link = s.link ∧
    (startRunning s).mgmt = s.mgmt ∧ (startRunning s).tx = s.tx ∧ (startRunning s).pending = s.pending := by
  repeat' apply And.intro
  all_goals
    unfold startRunning
    (try simp) <;> (repeat' split) <;> first | (simp; done) | (with_reducible rfl)

@[simp] theorem frame_setFunction (k : TrunkId) (f : TrunkFunction) :
    (setFunction k f s).dev = s.dev ∧ (setFunction k f s).timing = s.timing ∧ (setFunction k f s).params = s.params ∧
    (setFunction k f s).sw = s.sw ∧ (setFunction k f s).line = s.line ∧ (setFunction k f s).span = s.span ∧
    (setFunction k f s).map = s.map ∧ (setFunction k f s).tx = s.tx ∧ (setFunction k f s).pending = s.pending := by
  repeat' apply And.intro
  all_goals
    unfold setFunction
    (try simp) <;> (repeat' split) <;> first | (simp; done) | (with_reducible rfl)

@[simp] theorem frame_applyFunction (k : TrunkId) :
    (applyFunction k s).dev = s.dev ∧ (applyFunction k s).timing = s.timing ∧ (applyFunction k s).params = s.params ∧
    (applyFunction k s).sw = s.sw ∧ (applyFunction k s).line = s.line ∧ (applyFunction k s).span = s.span ∧
    (applyFunction k s).map = s.map ∧ (applyFunction k s).tx = s.tx ∧ (applyFunction k s).pending = s.pending := by
  repeat' apply And.intro
  all_goals
    unfold applyFunction
    (try simp) <;> (repeat' split) <;> first | (simp; done) | (with_reducible rfl)

@[simp] theorem frame_writeParameter (i : ParamId) (v : Nat) :
    (writeParameter i v s).dev = s.dev ∧ (writeParameter i v s).trunks = s.trunks ∧
    (writeParameter i v s).sw = s.sw ∧ (writeParameter i v s).line = s.line ∧ (writeParameter i v s).span = s.span ∧
    (writeParameter i v s).map = s.map ∧ (writeParameter i v s).circuits = s.circuits ∧
    (writeParameter i v s).moves = s.moves ∧ (writeParameter i v s).align = s.align ∧
    (writeParameter i v s).orders = s.orders ∧ (writeParameter i v s).link = s.link ∧
    (writeParameter i v s).mgmt = s.mgmt ∧ (writeParameter i v s).tx = s.tx ∧
    (writeParameter i v s).pending = s.pending := by
  repeat' apply And.intro
  all_goals
    unfold writeParameter
    (try simp) <;> (repeat' split) <;> first | (simp; done) | (with_reducible rfl)

@[simp] theorem frame_writeNamed (l : List (ParamId × Word16)) (i : ParamId) :
    (writeNamed l i s).dev = s.dev ∧ (writeNamed l i s).trunks = s.trunks ∧
    (writeNamed l i s).sw = s.sw ∧ (writeNamed l i s).line = s.line ∧ (writeNamed l i s).span = s.span ∧
    (writeNamed l i s).map = s.map ∧ (writeNamed l i s).circuits = s.circuits ∧
    (writeNamed l i s).moves = s.moves ∧ (writeNamed l i s).align = s.align ∧
    (writeNamed l i s).orders = s.orders ∧ (writeNamed l i s).link = s.link ∧
    (writeNamed l i s).mgmt = s.mgmt ∧ (writeNamed l i s).tx = s.tx ∧
    (writeNamed l i s).pending = s.pending := by
  repeat' apply And.intro
  all_goals
    unfold writeNamed
    (try simp) <;> (repeat' split) <;> first | (simp; done) | (with_reducible rfl)

@[simp] theorem frame_clampOffMark :
    (clampOffMark s).dev = s.dev ∧ (clampOffMark s).timing = s.timing ∧ (clampOffMark s).trunks = s.trunks ∧
    (clampOffMark s).sw = s.sw ∧ (clampOffMark s).line = s.line ∧ (clampOffMark s).span = s.span ∧
    (clampOffMark s).map = s.map ∧ (clampOffMark s).circuits = s.circuits ∧ (clampOffMark s).moves = s.moves ∧
    (clampOffMark s).align = s.align ∧ (clampOffMark s).orders = s.orders ∧ (clampOffMark s).link = s.link ∧
    (clampOffMark s).mgmt = s.mgmt ∧ (clampOffMark s).tx = s.tx ∧ (clampOffMark s).pending = s.pending := by
  repeat' apply And.intro
  all_goals
    unfold clampOffMark
    (try simp) <;> (repeat' split) <;> first | (simp; done) | (with_reducible rfl)

@[simp] theorem frame_writeParameters (l : List (ParamId × Word16)) :
    (writeParameters l s).dev = s.dev ∧ (writeParameters l s).trunks = s.trunks ∧ (writeParameters l s).sw = s.sw ∧
    (writeParameters l s).line = s.line ∧ (writeParameters l s).span = s.span ∧ (writeParameters l s).map = s.map ∧
    (writeParameters l s).circuits = s.circuits ∧ (writeParameters l s).moves = s.moves ∧
    (writeParameters l s).align = s.align ∧ (writeParameters l s).orders = s.orders ∧
    (writeParameters l s).mgmt = s.mgmt ∧ (writeParameters l s).tx = s.tx ∧ (writeParameters l s).pending = s.pending := by
  repeat' apply And.intro
  all_goals
    unfold writeParameters
    (try simp [part_forEach State.dev, part_forEach State.trunks, part_forEach State.sw,
        part_forEach State.line, part_forEach State.span, part_forEach State.map, part_forEach State.circuits,
        part_forEach State.moves, part_forEach State.align, part_forEach State.orders, part_forEach State.mgmt,
        part_forEach State.tx, part_forEach State.pending]) <;> (repeat' split) <;> simp [part_forEach State.dev, part_forEach State.trunks, part_forEach State.sw,
        part_forEach State.line, part_forEach State.span, part_forEach State.map, part_forEach State.circuits,
        part_forEach State.moves, part_forEach State.align, part_forEach State.orders, part_forEach State.mgmt,
        part_forEach State.tx, part_forEach State.pending]

@[simp] theorem frame_cancelOne (o : Order) :
    (cancelOne o s).dev = s.dev ∧ (cancelOne o s).timing = s.timing ∧ (cancelOne o s).params = s.params ∧
    (cancelOne o s).trunks = s.trunks ∧ (cancelOne o s).sw = s.sw ∧ (cancelOne o s).line = s.line ∧
    (cancelOne o s).span = s.span ∧ (cancelOne o s).map = s.map ∧ (cancelOne o s).circuits = s.circuits ∧
    (cancelOne o s).moves = s.moves ∧ (cancelOne o s).align = s.align ∧ (cancelOne o s).link = s.link ∧
    (cancelOne o s).tx = s.tx ∧ (cancelOne o s).pending = s.pending := by
  repeat' apply And.intro
  all_goals
    unfold cancelOne
    (try simp) <;> (repeat' split) <;> first | (simp; done) | (with_reducible rfl)

@[simp] theorem frame_losePower :
    (losePower s).timing = s.timing ∧ (losePower s).params = s.params ∧ (losePower s).sw = s.sw ∧
    (losePower s).line = s.line ∧ (losePower s).span = s.span ∧ (losePower s).map = s.map ∧
    (losePower s).circuits = s.circuits ∧ (losePower s).moves = s.moves ∧ (losePower s).align = s.align ∧
    (losePower s).orders = s.orders ∧ (losePower s).link = s.link ∧ (losePower s).mgmt = s.mgmt ∧
    (losePower s).pending = s.pending := by
  repeat' apply And.intro
  all_goals
    unfold losePower
    (try simp) <;> (repeat' split) <;> first | (simp; done) | (with_reducible rfl)

@[simp] theorem frame_advanceCount :
    (advanceCount s).dev = s.dev ∧ (advanceCount s).trunks = s.trunks ∧ (advanceCount s).sw = s.sw ∧
    (advanceCount s).line = s.line ∧ (advanceCount s).span = s.span ∧ (advanceCount s).map = s.map ∧
    (advanceCount s).circuits = s.circuits ∧ (advanceCount s).tx = s.tx ∧ (advanceCount s).pending = s.pending := by
  repeat' apply And.intro
  all_goals
    unfold advanceCount
    (try simp) <;> (repeat' split) <;> first | (simp; done) | (with_reducible rfl)

@[simp] theorem frame_takeSlotOctet :
    (takeSlotOctet s).dev = s.dev ∧ (takeSlotOctet s).timing = s.timing ∧ (takeSlotOctet s).params = s.params ∧
    (takeSlotOctet s).trunks = s.trunks ∧ (takeSlotOctet s).sw = s.sw ∧ (takeSlotOctet s).line = s.line ∧
    (takeSlotOctet s).span = s.span ∧ (takeSlotOctet s).map = s.map ∧ (takeSlotOctet s).circuits = s.circuits ∧
    (takeSlotOctet s).moves = s.moves ∧ (takeSlotOctet s).align = s.align ∧ (takeSlotOctet s).orders = s.orders ∧
    (takeSlotOctet s).link = s.link ∧ (takeSlotOctet s).tx = s.tx ∧ (takeSlotOctet s).pending = s.pending := by
  repeat' apply And.intro
  all_goals
    unfold takeSlotOctet
    (try simp) <;> (repeat' split) <;> first | (simp; done) | (with_reducible rfl)

@[simp] theorem frame_takeFunctions :
    (takeFunctions s).dev = s.dev ∧ (takeFunctions s).timing = s.timing ∧ (takeFunctions s).params = s.params ∧
    (takeFunctions s).sw = s.sw ∧ (takeFunctions s).line = s.line ∧ (takeFunctions s).span = s.span ∧
    (takeFunctions s).map = s.map ∧ (takeFunctions s).tx = s.tx ∧ (takeFunctions s).pending = s.pending := by
  unfold takeFunctions takeEach
  simp [part_forEach State.dev, part_forEach State.timing, part_forEach State.params, part_forEach State.sw,
    part_forEach State.line, part_forEach State.span, part_forEach State.map, part_forEach State.tx,
    part_forEach State.pending]

@[simp] theorem frame_takeDeletions :
    (takeDeletions s).dev = s.dev ∧ (takeDeletions s).timing = s.timing ∧ (takeDeletions s).params = s.params ∧
    (takeDeletions s).trunks = s.trunks ∧ (takeDeletions s).sw = s.sw ∧ (takeDeletions s).line = s.line ∧
    (takeDeletions s).span = s.span ∧ (takeDeletions s).map = s.map ∧ (takeDeletions s).orders = s.orders ∧
    (takeDeletions s).link = s.link ∧ (takeDeletions s).mgmt = s.mgmt ∧ (takeDeletions s).tx = s.tx ∧
    (takeDeletions s).pending = s.pending := by
  unfold takeDeletions
  dsimp only
  split
  all_goals
    simp [part_forEach State.dev, part_forEach State.timing, part_forEach State.params, part_forEach State.trunks,
      part_forEach State.sw, part_forEach State.line, part_forEach State.span, part_forEach State.map,
      part_forEach State.orders, part_forEach State.link, part_forEach State.mgmt, part_forEach State.tx,
      part_forEach State.pending]

@[simp] theorem frame_readStores :
    (readStores s).dev = s.dev ∧ (readStores s).timing = s.timing ∧ (readStores s).params = s.params ∧
    (readStores s).trunks = s.trunks ∧ (readStores s).map = s.map ∧ (readStores s).orders = s.orders ∧
    (readStores s).link = s.link ∧ (readStores s).tx = s.tx ∧ (readStores s).pending = s.pending := by
  repeat' apply And.intro
  all_goals
    unfold readStores
    (try simp [part_forEach State.dev, part_forEach State.timing, part_forEach State.params,
        part_forEach State.trunks, part_forEach State.map, part_forEach State.orders, part_forEach State.link,
        part_forEach State.tx, part_forEach State.pending]) <;> (repeat' split) <;> simp [part_forEach State.dev, part_forEach State.timing, part_forEach State.params,
        part_forEach State.trunks, part_forEach State.map, part_forEach State.orders, part_forEach State.link,
        part_forEach State.tx, part_forEach State.pending]

@[simp] theorem frame_tickTimers :
    (tickTimers s).dev = s.dev ∧ (tickTimers s).params = s.params ∧ (tickTimers s).sw = s.sw ∧
    (tickTimers s).line = s.line ∧ (tickTimers s).map = s.map ∧ (tickTimers s).link = s.link ∧
    (tickTimers s).tx = s.tx ∧ (tickTimers s).pending = s.pending := by
  repeat' apply And.intro
  all_goals
    unfold tickTimers
    (try simp) <;> (repeat' split) <;> first | (simp; done) | (with_reducible rfl)

@[simp] theorem frame_fillPositions :
    (fillPositions s).dev = s.dev ∧ (fillPositions s).timing = s.timing ∧ (fillPositions s).params = s.params ∧
    (fillPositions s).trunks = s.trunks ∧ (fillPositions s).sw = s.sw ∧ (fillPositions s).line = s.line ∧
    (fillPositions s).span = s.span ∧ (fillPositions s).map = s.map ∧ (fillPositions s).circuits = s.circuits ∧
    (fillPositions s).moves = s.moves ∧ (fillPositions s).align = s.align ∧ (fillPositions s).orders = s.orders ∧
    (fillPositions s).mgmt = s.mgmt ∧ (fillPositions s).tx = s.tx ∧ (fillPositions s).pending = s.pending := by
  repeat' apply And.intro
  all_goals
    unfold fillPositions
    (try simp) <;> (repeat' split) <;> first | (simp; done) | (with_reducible rfl)

@[simp] theorem frame_nextSpanCell :
    (nextSpanCell s).dev = s.dev ∧ (nextSpanCell s).timing = s.timing ∧ (nextSpanCell s).params = s.params ∧
    (nextSpanCell s).trunks = s.trunks ∧ (nextSpanCell s).sw = s.sw ∧ (nextSpanCell s).line = s.line ∧
    (nextSpanCell s).span = s.span ∧ (nextSpanCell s).map = s.map ∧ (nextSpanCell s).circuits = s.circuits ∧
    (nextSpanCell s).moves = s.moves ∧ (nextSpanCell s).align = s.align ∧ (nextSpanCell s).orders = s.orders ∧
    (nextSpanCell s).link = s.link ∧ (nextSpanCell s).tx = s.tx ∧ (nextSpanCell s).pending = s.pending := by
  repeat' apply And.intro
  all_goals
    unfold nextSpanCell
    (try simp) <;> (repeat' split) <;> first | (simp; done) | (with_reducible rfl)

@[simp] theorem frame_sendFrames :
    (sendFrames s).dev = s.dev ∧ (sendFrames s).timing = s.timing ∧ (sendFrames s).params = s.params ∧
    (sendFrames s).trunks = s.trunks ∧ (sendFrames s).sw = s.sw ∧ (sendFrames s).line = s.line ∧
    (sendFrames s).map = s.map ∧ (sendFrames s).moves = s.moves ∧ (sendFrames s).align = s.align ∧
    (sendFrames s).orders = s.orders ∧ (sendFrames s).link = s.link ∧ (sendFrames s).pending = s.pending := by
  repeat' apply And.intro
  all_goals
    unfold sendFrames
    (try simp) <;> (repeat' split) <;> first | (simp; done) | (with_reducible rfl)

end Sys2Proof.Machine
end

