-- ==== Sys2Proof/Laws/Serve.lean ====
section
/-! SUPPORT. One lemma per management request: the blocks of State that serving it leaves alone; and a request taken
leaves alone what its service does, the agent aside. -/
namespace Sys2Proof.Machine

set_option linter.unusedSimpArgs false

variable (s : State)

@[simp] theorem frame_deny (code : Byte) (r : Reason) :
    (deny code r s).1.dev = s.dev ∧ (deny code r s).1.timing = s.timing ∧ (deny code r s).1.params = s.params ∧
    (deny code r s).1.trunks = s.trunks ∧ (deny code r s).1.sw = s.sw ∧ (deny code r s).1.line = s.line ∧
    (deny code r s).1.span = s.span ∧ (deny code r s).1.map = s.map ∧ (deny code r s).1.circuits = s.circuits ∧
    (deny code r s).1.moves = s.moves ∧ (deny code r s).1.align = s.align ∧ (deny code r s).1.orders = s.orders ∧
    (deny code r s).1.link = s.link ∧ (deny code r s).1.mgmt = s.mgmt ∧ (deny code r s).1.tx = s.tx ∧
    (deny code r s).1.pending = s.pending := by
  repeat' apply And.intro
  all_goals
    unfold deny
    (try simp) <;> (repeat' split) <;> first
      | (simp; done)
      | (with_reducible rfl)

@[simp] theorem frame_serveStatus (part start : Byte) :
    (serveStatus part start s).1.dev = s.dev ∧ (serveStatus part start s).1.timing = s.timing ∧
    (serveStatus part start s).1.params = s.params ∧ (serveStatus part start s).1.trunks = s.trunks ∧
    (serveStatus part start s).1.sw = s.sw ∧ (serveStatus part start s).1.line = s.line ∧
    (serveStatus part start s).1.span = s.span ∧ (serveStatus part start s).1.map = s.map ∧
    (serveStatus part start s).1.circuits = s.circuits ∧ (serveStatus part start s).1.moves = s.moves ∧
    (serveStatus part start s).1.align = s.align ∧ (serveStatus part start s).1.orders = s.orders ∧
    (serveStatus part start s).1.link = s.link ∧ (serveStatus part start s).1.mgmt = s.mgmt ∧
    (serveStatus part start s).1.tx = s.tx ∧ (serveStatus part start s).1.pending = s.pending := by
  repeat' apply And.intro
  all_goals
    unfold serveStatus
    (try simp) <;> (repeat' split) <;> first
      | (simp; done)
      | (with_reducible rfl)

@[simp] theorem frame_serveReadRange (trunk first last : Byte) :
    (serveReadRange trunk first last s).1.dev = s.dev ∧ (serveReadRange trunk first last s).1.timing = s.timing ∧
    (serveReadRange trunk first last s).1.params = s.params ∧
    (serveReadRange trunk first last s).1.trunks = s.trunks ∧ (serveReadRange trunk first last s).1.sw = s.sw ∧
    (serveReadRange trunk first last s).1.line = s.line ∧ (serveReadRange trunk first last s).1.span = s.span ∧
    (serveReadRange trunk first last s).1.map = s.map ∧ (serveReadRange trunk first last s).1.circuits = s.circuits ∧
    (serveReadRange trunk first last s).1.moves = s.moves ∧ (serveReadRange trunk first last s).1.align = s.align ∧
    (serveReadRange trunk first last s).1.orders = s.orders ∧ (serveReadRange trunk first last s).1.link = s.link ∧
    (serveReadRange trunk first last s).1.mgmt = s.mgmt ∧ (serveReadRange trunk first last s).1.tx = s.tx ∧
    (serveReadRange trunk first last s).1.pending = s.pending := by
  repeat' apply And.intro
  all_goals
    unfold serveReadRange
    (try simp) <;> (repeat' split) <;> first
      | (simp; done)
      | (with_reducible rfl)

@[simp] theorem frame_serveReadSlot (slot : Word16) :
    (serveReadSlot slot s).1.dev = s.dev ∧ (serveReadSlot slot s).1.timing = s.timing ∧
    (serveReadSlot slot s).1.params = s.params ∧ (serveReadSlot slot s).1.trunks = s.trunks ∧
    (serveReadSlot slot s).1.sw = s.sw ∧ (serveReadSlot slot s).1.line = s.line ∧
    (serveReadSlot slot s).1.span = s.span ∧ (serveReadSlot slot s).1.map = s.map ∧
    (serveReadSlot slot s).1.circuits = s.circuits ∧ (serveReadSlot slot s).1.moves = s.moves ∧
    (serveReadSlot slot s).1.align = s.align ∧ (serveReadSlot slot s).1.orders = s.orders ∧
    (serveReadSlot slot s).1.link = s.link ∧ (serveReadSlot slot s).1.mgmt = s.mgmt ∧
    (serveReadSlot slot s).1.tx = s.tx ∧ (serveReadSlot slot s).1.pending = s.pending := by
  repeat' apply And.intro
  all_goals
    unfold serveReadSlot
    (try simp) <;> (repeat' split) <;> first
      | (simp; done)
      | (with_reducible rfl)

@[simp] theorem frame_serveSetCircuit (trunk channel : Byte) (slot : Word16) (policy roc pin : Byte) :
    (serveSetCircuit trunk channel slot policy roc pin s).1.dev = s.dev ∧
    (serveSetCircuit trunk channel slot policy roc pin s).1.timing = s.timing ∧
    (serveSetCircuit trunk channel slot policy roc pin s).1.params = s.params ∧
    (serveSetCircuit trunk channel slot policy roc pin s).1.trunks = s.trunks ∧
    (serveSetCircuit trunk channel slot policy roc pin s).1.sw = s.sw ∧
    (serveSetCircuit trunk channel slot policy roc pin s).1.line = s.line ∧
    (serveSetCircuit trunk channel slot policy roc pin s).1.span = s.span ∧
    (serveSetCircuit trunk channel slot policy roc pin s).1.align = s.align ∧
    (serveSetCircuit trunk channel slot policy roc pin s).1.orders = s.orders ∧
    (serveSetCircuit trunk channel slot policy roc pin s).1.link = s.link ∧
    (serveSetCircuit trunk channel slot policy roc pin s).1.mgmt = s.mgmt ∧
    (serveSetCircuit trunk channel slot policy roc pin s).1.tx = s.tx ∧
    (serveSetCircuit trunk channel slot policy roc pin s).1.pending = s.pending := by
  repeat' apply And.intro
  all_goals
    unfold serveSetCircuit
    (try simp) <;> (repeat' split) <;> first
      | (simp; done)
      | (with_reducible rfl)

@[simp] theorem frame_serveFillBlock (trunk block ordering key policy : Byte) :
    (serveFillBlock trunk block ordering key policy s).1.dev = s.dev ∧
    (serveFillBlock trunk block ordering key policy s).1.timing = s.timing ∧
    (serveFillBlock trunk block ordering key policy s).1.params = s.params ∧
    (serveFillBlock trunk block ordering key policy s).1.trunks = s.trunks ∧
    (serveFillBlock trunk block ordering key policy s).1.sw = s.sw ∧
    (serveFillBlock trunk block ordering key policy s).1.line = s.line ∧
    (serveFillBlock trunk block ordering key policy s).1.span = s.span ∧
    (serveFillBlock trunk block ordering key policy s).1.align = s.align ∧
    (serveFillBlock trunk block ordering key policy s).1.orders = s.orders ∧
    (serveFillBlock trunk block ordering key policy s).1.link = s.link ∧
    (serveFillBlock trunk block ordering key policy s).1.mgmt = s.mgmt ∧
    (serveFillBlock trunk block ordering key policy s).1.tx = s.tx ∧
    (serveFillBlock trunk block ordering key policy s).1.pending = s.pending := by
  repeat' apply And.intro
  all_goals
    unfold serveFillBlock
    (try simp [part_forEach State.dev, part_forEach State.timing, part_forEach State.params,
        part_forEach State.trunks, part_forEach State.sw, part_forEach State.line, part_forEach State.span,
        part_forEach State.align, part_forEach State.orders, part_forEach State.link, part_forEach State.mgmt,
        part_forEach State.tx, part_forEach State.pending]) <;> (repeat' split) <;> first
      | (simp [part_forEach State.dev, part_forEach State.timing, part_forEach State.params,
        part_forEach State.trunks, part_forEach State.sw, part_forEach State.line, part_forEach State.span,
        part_forEach State.align, part_forEach State.orders, part_forEach State.link, part_forEach State.mgmt,
        part_forEach State.tx, part_forEach State.pending]; done)
      | (with_reducible rfl)

@[simp] theorem frame_serveReadTrunk (trunk clearing : Byte) :
    (serveReadTrunk trunk clearing s).1.dev = s.dev ∧ (serveReadTrunk trunk clearing s).1.timing = s.timing ∧
    (serveReadTrunk trunk clearing s).1.params = s.params ∧ (serveReadTrunk trunk clearing s).1.trunks = s.trunks ∧
    (serveReadTrunk trunk clearing s).1.span = s.span ∧ (serveReadTrunk trunk clearing s).1.map = s.map ∧
    (serveReadTrunk trunk clearing s).1.circuits = s.circuits ∧ (serveReadTrunk trunk clearing s).1.moves = s.moves ∧
    (serveReadTrunk trunk clearing s).1.align = s.align ∧ (serveReadTrunk trunk clearing s).1.orders = s.orders ∧
    (serveReadTrunk trunk clearing s).1.link = s.link ∧ (serveReadTrunk trunk clearing s).1.mgmt = s.mgmt ∧
    (serveReadTrunk trunk clearing s).1.tx = s.tx ∧ (serveReadTrunk trunk clearing s).1.pending = s.pending := by
  repeat' apply And.intro
  all_goals
    unfold serveReadTrunk
    (try simp) <;> (repeat' split) <;> first
      | (simp; done)
      | (with_reducible rfl)

@[simp] theorem frame_serveSetFunction (trunk function : Byte) :
    (serveSetFunction trunk function s).1.dev = s.dev ∧ (serveSetFunction trunk function s).1.timing = s.timing ∧
    (serveSetFunction trunk function s).1.params = s.params ∧ (serveSetFunction trunk function s).1.sw = s.sw ∧
    (serveSetFunction trunk function s).1.line = s.line ∧ (serveSetFunction trunk function s).1.span = s.span ∧
    (serveSetFunction trunk function s).1.map = s.map ∧ (serveSetFunction trunk function s).1.moves = s.moves ∧
    (serveSetFunction trunk function s).1.align = s.align ∧ (serveSetFunction trunk function s).1.orders = s.orders ∧
    (serveSetFunction trunk function s).1.link = s.link ∧ (serveSetFunction trunk function s).1.mgmt = s.mgmt ∧
    (serveSetFunction trunk function s).1.tx = s.tx ∧ (serveSetFunction trunk function s).1.pending = s.pending := by
  repeat' apply And.intro
  all_goals
    unfold serveSetFunction
    (try simp) <;> (repeat' split) <;> first
      | (simp; done)
      | (with_reducible rfl)

@[simp] theorem frame_serveSetCodes (trunk named idle blocking vacant : Byte) :
    (serveSetCodes trunk named idle blocking vacant s).1.dev = s.dev ∧
    (serveSetCodes trunk named idle blocking vacant s).1.timing = s.timing ∧
    (serveSetCodes trunk named idle blocking vacant s).1.params = s.params ∧
    (serveSetCodes trunk named idle blocking vacant s).1.sw = s.sw ∧
    (serveSetCodes trunk named idle blocking vacant s).1.line = s.line ∧
    (serveSetCodes trunk named idle blocking vacant s).1.span = s.span ∧
    (serveSetCodes trunk named idle blocking vacant s).1.map = s.map ∧
    (serveSetCodes trunk named idle blocking vacant s).1.align = s.align ∧
    (serveSetCodes trunk named idle blocking vacant s).1.orders = s.orders ∧
    (serveSetCodes trunk named idle blocking vacant s).1.link = s.link ∧
    (serveSetCodes trunk named idle blocking vacant s).1.mgmt = s.mgmt ∧
    (serveSetCodes trunk named idle blocking vacant s).1.tx = s.tx ∧
    (serveSetCodes trunk named idle blocking vacant s).1.pending = s.pending := by
  repeat' apply And.intro
  all_goals
    unfold serveSetCodes
    (try simp [part_forEach State.dev, part_forEach State.timing, part_forEach State.params,
        part_forEach State.sw, part_forEach State.line, part_forEach State.span, part_forEach State.map,
        part_forEach State.align, part_forEach State.orders, part_forEach State.link, part_forEach State.mgmt,
        part_forEach State.tx, part_forEach State.pending]) <;> (repeat' split) <;> first
      | (simp [part_forEach State.dev, part_forEach State.timing, part_forEach State.params,
        part_forEach State.sw, part_forEach State.line, part_forEach State.span, part_forEach State.map,
        part_forEach State.align, part_forEach State.orders, part_forEach State.link, part_forEach State.mgmt,
        part_forEach State.tx, part_forEach State.pending]; done)
      | (with_reducible rfl)

@[simp] theorem frame_serveInsert (trunk : Byte) :
    (serveInsert trunk s).1.dev = s.dev ∧ (serveInsert trunk s).1.timing = s.timing ∧
    (serveInsert trunk s).1.params = s.params ∧ (serveInsert trunk s).1.sw = s.sw ∧
    (serveInsert trunk s).1.line = s.line ∧ (serveInsert trunk s).1.span = s.span ∧
    (serveInsert trunk s).1.map = s.map ∧ (serveInsert trunk s).1.circuits = s.circuits ∧
    (serveInsert trunk s).1.moves = s.moves ∧ (serveInsert trunk s).1.align = s.align ∧
    (serveInsert trunk s).1.orders = s.orders ∧ (serveInsert trunk s).1.link = s.link ∧
    (serveInsert trunk s).1.mgmt = s.mgmt ∧ (serveInsert trunk s).1.tx = s.tx ∧
    (serveInsert trunk s).1.pending = s.pending := by
  repeat' apply And.intro
  all_goals
    unfold serveInsert
    (try simp) <;> (repeat' split) <;> first
      | (simp; done)
      | (with_reducible rfl)

@[simp] theorem frame_serveWithdraw (trunk : Byte) :
    (serveWithdraw trunk s).1.dev = s.dev ∧ (serveWithdraw trunk s).1.timing = s.timing ∧
    (serveWithdraw trunk s).1.params = s.params ∧ (serveWithdraw trunk s).1.sw = s.sw ∧
    (serveWithdraw trunk s).1.line = s.line ∧ (serveWithdraw trunk s).1.span = s.span ∧
    (serveWithdraw trunk s).1.map = s.map ∧ (serveWithdraw trunk s).1.circuits = s.circuits ∧
    (serveWithdraw trunk s).1.moves = s.moves ∧ (serveWithdraw trunk s).1.align = s.align ∧
    (serveWithdraw trunk s).1.orders = s.orders ∧ (serveWithdraw trunk s).1.link = s.link ∧
    (serveWithdraw trunk s).1.mgmt = s.mgmt ∧ (serveWithdraw trunk s).1.tx = s.tx ∧
    (serveWithdraw trunk s).1.pending = s.pending := by
  repeat' apply And.intro
  all_goals
    unfold serveWithdraw
    (try simp [part_forEach State.dev, part_forEach State.timing, part_forEach State.params,
        part_forEach State.sw, part_forEach State.line, part_forEach State.span, part_forEach State.map,
        part_forEach State.circuits, part_forEach State.moves, part_forEach State.align, part_forEach State.orders,
        part_forEach State.link, part_forEach State.mgmt, part_forEach State.tx, part_forEach State.pending]) <;> (repeat' split) <;> first
      | (simp [part_forEach State.dev, part_forEach State.timing, part_forEach State.params,
        part_forEach State.sw, part_forEach State.line, part_forEach State.span, part_forEach State.map,
        part_forEach State.circuits, part_forEach State.moves, part_forEach State.align, part_forEach State.orders,
        part_forEach State.link, part_forEach State.mgmt, part_forEach State.tx, part_forEach State.pending]; done)
      | (with_reducible rfl)

@[simp] theorem frame_serveReadParameters :
    (serveReadParameters s).1.dev = s.dev ∧ (serveReadParameters s).1.timing = s.timing ∧
    (serveReadParameters s).1.params = s.params ∧ (serveReadParameters s).1.trunks = s.trunks ∧
    (serveReadParameters s).1.sw = s.sw ∧ (serveReadParameters s).1.line = s.line ∧
    (serveReadParameters s).1.span = s.span ∧ (serveReadParameters s).1.map = s.map ∧
    (serveReadParameters s).1.circuits = s.circuits ∧ (serveReadParameters s).1.moves = s.moves ∧
    (serveReadParameters s).1.align = s.align ∧ (serveReadParameters s).1.orders = s.orders ∧
    (serveReadParameters s).1.link = s.link ∧ (serveReadParameters s).1.mgmt = s.mgmt ∧
    (serveReadParameters s).1.tx = s.tx ∧ (serveReadParameters s).1.pending = s.pending := by
  repeat' apply And.intro
  all_goals
    unfold serveReadParameters
    (try simp) <;> (repeat' split) <;> first
      | (simp; done)
      | (with_reducible rfl)

@[simp] theorem frame_serveSetParameters (l : List (Byte × Word16)) :
    (serveSetParameters l s).1.dev = s.dev ∧ (serveSetParameters l s).1.trunks = s.trunks ∧
    (serveSetParameters l s).1.sw = s.sw ∧ (serveSetParameters l s).1.line = s.line ∧
    (serveSetParameters l s).1.span = s.span ∧ (serveSetParameters l s).1.map = s.map ∧
    (serveSetParameters l s).1.circuits = s.circuits ∧ (serveSetParameters l s).1.moves = s.moves ∧
    (serveSetParameters l s).1.align = s.align ∧ (serveSetParameters l s).1.orders = s.orders ∧
    (serveSetParameters l s).1.mgmt = s.mgmt ∧ (serveSetParameters l s).1.tx = s.tx ∧
    (serveSetParameters l s).1.pending = s.pending := by
  repeat' apply And.intro
  all_goals
    unfold serveSetParameters
    (try simp) <;> (repeat' split) <;> first
      | (simp; done)
      | (with_reducible rfl)

@[simp] theorem frame_servePostOrder (trunk first last direction : Byte) (deadline : Word16) :
    (servePostOrder trunk first last direction deadline s).1.dev = s.dev ∧
    (servePostOrder trunk first last direction deadline s).1.timing = s.timing ∧
    (servePostOrder trunk first last direction deadline s).1.params = s.params ∧
    (servePostOrder trunk first last direction deadline s).1.trunks = s.trunks ∧
    (servePostOrder trunk first last direction deadline s).1.sw = s.sw ∧
    (servePostOrder trunk first last direction deadline s).1.line = s.line ∧
    (servePostOrder trunk first last direction deadline s).1.span = s.span ∧
    (servePostOrder trunk first last direction deadline s).1.map = s.map ∧
    (servePostOrder trunk first last direction deadline s).1.circuits = s.circuits ∧
    (servePostOrder trunk first last direction deadline s).1.moves = s.moves ∧
    (servePostOrder trunk first last direction deadline s).1.align = s.align ∧
    (servePostOrder trunk first last direction deadline s).1.link = s.link ∧
    (servePostOrder trunk first last direction deadline s).1.mgmt = s.mgmt ∧
    (servePostOrder trunk first last direction deadline s).1.tx = s.tx ∧
    (servePostOrder trunk first last direction deadline s).1.pending = s.pending := by
  repeat' apply And.intro
  all_goals
    unfold servePostOrder
    (try simp) <;> (repeat' split) <;> first
      | (simp; done)
      | (with_reducible rfl)

@[simp] theorem frame_serveCancelOrder (number : Byte) :
    (serveCancelOrder number s).1.dev = s.dev ∧ (serveCancelOrder number s).1.timing = s.timing ∧
    (serveCancelOrder number s).1.params = s.params ∧ (serveCancelOrder number s).1.trunks = s.trunks ∧
    (serveCancelOrder number s).1.sw = s.sw ∧ (serveCancelOrder number s).1.line = s.line ∧
    (serveCancelOrder number s).1.span = s.span ∧ (serveCancelOrder number s).1.map = s.map ∧
    (serveCancelOrder number s).1.circuits = s.circuits ∧ (serveCancelOrder number s).1.moves = s.moves ∧
    (serveCancelOrder number s).1.align = s.align ∧ (serveCancelOrder number s).1.link = s.link ∧
    (serveCancelOrder number s).1.tx = s.tx ∧ (serveCancelOrder number s).1.pending = s.pending := by
  repeat' apply And.intro
  all_goals
    unfold serveCancelOrder
    (try simp) <;> (repeat' split) <;> first
      | (simp; done)
      | (with_reducible rfl)

@[simp] theorem frame_serveRemoveOrder (number : Byte) :
    (serveRemoveOrder number s).1.dev = s.dev ∧ (serveRemoveOrder number s).1.timing = s.timing ∧
    (serveRemoveOrder number s).1.params = s.params ∧ (serveRemoveOrder number s).1.trunks = s.trunks ∧
    (serveRemoveOrder number s).1.sw = s.sw ∧ (serveRemoveOrder number s).1.line = s.line ∧
    (serveRemoveOrder number s).1.span = s.span ∧ (serveRemoveOrder number s).1.map = s.map ∧
    (serveRemoveOrder number s).1.circuits = s.circuits ∧ (serveRemoveOrder number s).1.moves = s.moves ∧
    (serveRemoveOrder number s).1.align = s.align ∧ (serveRemoveOrder number s).1.link = s.link ∧
    (serveRemoveOrder number s).1.mgmt = s.mgmt ∧ (serveRemoveOrder number s).1.tx = s.tx ∧
    (serveRemoveOrder number s).1.pending = s.pending := by
  repeat' apply And.intro
  all_goals
    unfold serveRemoveOrder
    (try simp) <;> (repeat' split) <;> first
      | (simp; done)
      | (with_reducible rfl)

@[simp] theorem frame_serveReadOrders (fl number : Byte) :
    (serveReadOrders fl number s).1.dev = s.dev ∧ (serveReadOrders fl number s).1.timing = s.timing ∧
    (serveReadOrders fl number s).1.params = s.params ∧ (serveReadOrders fl number s).1.trunks = s.trunks ∧
    (serveReadOrders fl number s).1.sw = s.sw ∧ (serveReadOrders fl number s).1.line = s.line ∧
    (serveReadOrders fl number s).1.span = s.span ∧ (serveReadOrders fl number s).1.map = s.map ∧
    (serveReadOrders fl number s).1.circuits = s.circuits ∧ (serveReadOrders fl number s).1.moves = s.moves ∧
    (serveReadOrders fl number s).1.align = s.align ∧ (serveReadOrders fl number s).1.orders = s.orders ∧
    (serveReadOrders fl number s).1.link = s.link ∧ (serveReadOrders fl number s).1.mgmt = s.mgmt ∧
    (serveReadOrders fl number s).1.tx = s.tx ∧ (serveReadOrders fl number s).1.pending = s.pending := by
  repeat' apply And.intro
  all_goals
    unfold serveReadOrders
    (try simp) <;> (repeat' split) <;> first
      | (simp; done)
      | (with_reducible rfl)

@[simp] theorem frame_serveClearCauses (mask : Word16) :
    (serveClearCauses mask s).1.dev = s.dev ∧ (serveClearCauses mask s).1.timing = s.timing ∧
    (serveClearCauses mask s).1.params = s.params ∧ (serveClearCauses mask s).1.trunks = s.trunks ∧
    (serveClearCauses mask s).1.sw = s.sw ∧ (serveClearCauses mask s).1.line = s.line ∧
    (serveClearCauses mask s).1.span = s.span ∧ (serveClearCauses mask s).1.map = s.map ∧
    (serveClearCauses mask s).1.circuits = s.circuits ∧ (serveClearCauses mask s).1.moves = s.moves ∧
    (serveClearCauses mask s).1.align = s.align ∧ (serveClearCauses mask s).1.orders = s.orders ∧
    (serveClearCauses mask s).1.link = s.link ∧ (serveClearCauses mask s).1.tx = s.tx ∧
    (serveClearCauses mask s).1.pending = s.pending := by
  repeat' apply And.intro
  all_goals
    unfold serveClearCauses
    (try simp) <;> (repeat' split) <;> first
      | (simp; done)
      | (with_reducible rfl)

@[simp] theorem frame_serveSetEnables (mask : Word16) :
    (serveSetEnables mask s).1.dev = s.dev ∧ (serveSetEnables mask s).1.timing = s.timing ∧
    (serveSetEnables mask s).1.params = s.params ∧ (serveSetEnables mask s).1.trunks = s.trunks ∧
    (serveSetEnables mask s).1.sw = s.sw ∧ (serveSetEnables mask s).1.line = s.line ∧
    (serveSetEnables mask s).1.span = s.span ∧ (serveSetEnables mask s).1.map = s.map ∧
    (serveSetEnables mask s).1.circuits = s.circuits ∧ (serveSetEnables mask s).1.moves = s.moves ∧
    (serveSetEnables mask s).1.align = s.align ∧ (serveSetEnables mask s).1.orders = s.orders ∧
    (serveSetEnables mask s).1.link = s.link ∧ (serveSetEnables mask s).1.tx = s.tx ∧
    (serveSetEnables mask s).1.pending = s.pending := by
  repeat' apply And.intro
  all_goals
    unfold serveSetEnables
    (try simp) <;> (repeat' split) <;> first
      | (simp; done)
      | (with_reducible rfl)

@[simp] theorem frame_serveReadCounters (group clearing : Byte) :
    (serveReadCounters group clearing s).1.dev = s.dev ∧ (serveReadCounters group clearing s).1.timing = s.timing ∧
    (serveReadCounters group clearing s).1.params = s.params ∧
    (serveReadCounters group clearing s).1.trunks = s.trunks ∧ (serveReadCounters group clearing s).1.map = s.map ∧
    (serveReadCounters group clearing s).1.circuits = s.circuits ∧
    (serveReadCounters group clearing s).1.moves = s.moves ∧ (serveReadCounters group clearing s).1.align = s.align ∧
    (serveReadCounters group clearing s).1.orders = s.orders ∧ (serveReadCounters group clearing s).1.tx = s.tx ∧
    (serveReadCounters group clearing s).1.pending = s.pending := by
  repeat' apply And.intro
  all_goals
    unfold serveReadCounters
    (try simp) <;> (repeat' split) <;> first
      | (simp; done)
      | (with_reducible rfl)

@[simp] theorem frame_serveRestart :
    (serveRestart s).1.dev = s.dev ∧ (serveRestart s).1.timing = s.timing ∧ (serveRestart s).1.params = s.params ∧
    (serveRestart s).1.trunks = s.trunks ∧ (serveRestart s).1.sw = s.sw ∧ (serveRestart s).1.line = s.line ∧
    (serveRestart s).1.span = s.span ∧ (serveRestart s).1.map = s.map ∧ (serveRestart s).1.circuits = s.circuits ∧
    (serveRestart s).1.moves = s.moves ∧ (serveRestart s).1.align = s.align ∧ (serveRestart s).1.orders = s.orders ∧
    (serveRestart s).1.link = s.link ∧ (serveRestart s).1.tx = s.tx ∧ (serveRestart s).1.pending = s.pending := by
  repeat' apply And.intro
  all_goals
    unfold serveRestart
    (try simp) <;> (repeat' split) <;> first
      | (simp; done)
      | (with_reducible rfl)

theorem frame_beginCommand (d : Dir) {c : CircuitId} {t : State} (h : beginCommand d c s = .ok t) :
    t.dev = s.dev ∧ t.timing = s.timing ∧ t.params = s.params ∧ t.trunks = s.trunks ∧ t.sw = s.sw ∧ t.line = s.line ∧
    t.span = s.span ∧ t.map = s.map ∧ t.align = s.align ∧ t.orders = s.orders ∧ t.tx = s.tx ∧ t.pending = s.pending := by
  repeat' apply And.intro
  all_goals
    unfold beginCommand at h
    (repeat' split at h) <;> (try simp only [Except.ok.injEq, reduceCtorEq] at h) <;> first
      | (subst h; simp; done)
      | contradiction

theorem frame_rollCommand {c : CircuitId} {t : State} (h : rollCommand c s = .ok t) :
    t.dev = s.dev ∧ t.timing = s.timing ∧ t.params = s.params ∧ t.trunks = s.trunks ∧ t.sw = s.sw ∧ t.line = s.line ∧
    t.span = s.span ∧ t.map = s.map ∧ t.align = s.align ∧ t.orders = s.orders ∧ t.link = s.link ∧ t.mgmt = s.mgmt ∧
    t.tx = s.tx ∧ t.pending = s.pending := by
  repeat' apply And.intro
  all_goals
    unfold rollCommand at h
    (repeat' split at h) <;> (try simp only [Except.ok.injEq, reduceCtorEq] at h) <;> first
      | (subst h; simp; done)
      | contradiction

theorem frame_releaseCommand {c : CircuitId} {t : State} (h : releaseCommand c s = .ok t) :
    t.dev = s.dev ∧ t.timing = s.timing ∧ t.params = s.params ∧ t.trunks = s.trunks ∧ t.sw = s.sw ∧ t.line = s.line ∧
    t.span = s.span ∧ t.map = s.map ∧ t.circuits = s.circuits ∧ t.align = s.align ∧ t.orders = s.orders ∧
    t.tx = s.tx ∧ t.pending = s.pending := by
  repeat' apply And.intro
  all_goals
    unfold releaseCommand at h
    (repeat' split at h) <;> (try simp only [Except.ok.injEq, reduceCtorEq] at h) <;> first
      | (subst h; simp; done)
      | contradiction

theorem frame_abandonCommand {c : CircuitId} {t : State} (h : abandonCommand c s = .ok t) :
    t.dev = s.dev ∧ t.timing = s.timing ∧ t.params = s.params ∧ t.trunks = s.trunks ∧ t.sw = s.sw ∧ t.line = s.line ∧
    t.span = s.span ∧ t.map = s.map ∧ t.tx = s.tx ∧ t.pending = s.pending := by
  repeat' apply And.intro
  all_goals
    unfold abandonCommand at h
    (repeat' split at h) <;> (try simp only [Except.ok.injEq, reduceCtorEq] at h) <;> first
      | (subst h; simp; done)
      | contradiction

theorem frame_pinCommand {c : CircuitId} {t : State} (h : pinCommand c s = .ok t) :
    t.dev = s.dev ∧ t.timing = s.timing ∧ t.params = s.params ∧ t.trunks = s.trunks ∧ t.sw = s.sw ∧ t.line = s.line ∧
    t.span = s.span ∧ t.circuits = s.circuits ∧ t.moves = s.moves ∧ t.align = s.align ∧ t.orders = s.orders ∧
    t.link = s.link ∧ t.mgmt = s.mgmt ∧ t.tx = s.tx ∧ t.pending = s.pending := by
  repeat' apply And.intro
  all_goals
    unfold pinCommand at h
    (repeat' split at h) <;> (try simp only [Except.ok.injEq, reduceCtorEq] at h) <;> first
      | (subst h; simp; done)
      | contradiction

theorem frame_unpinCommand {c : CircuitId} {t : State} (h : unpinCommand c s = .ok t) :
    t.dev = s.dev ∧ t.timing = s.timing ∧ t.params = s.params ∧ t.trunks = s.trunks ∧ t.sw = s.sw ∧ t.line = s.line ∧
    t.span = s.span ∧ t.circuits = s.circuits ∧ t.align = s.align ∧ t.orders = s.orders ∧ t.tx = s.tx ∧
    t.pending = s.pending := by
  repeat' apply And.intro
  all_goals
    unfold unpinCommand at h
    (repeat' split at h) <;> (try simp only [Except.ok.injEq, reduceCtorEq] at h) <;> first
      | (subst h; simp; done)
      | contradiction

theorem frame_unblockCommand {c : CircuitId} {t : State} (h : unblockCommand c s = .ok t) :
    t.dev = s.dev ∧ t.timing = s.timing ∧ t.params = s.params ∧ t.trunks = s.trunks ∧ t.sw = s.sw ∧ t.line = s.line ∧
    t.span = s.span ∧ t.map = s.map ∧ t.moves = s.moves ∧ t.align = s.align ∧ t.orders = s.orders ∧ t.link = s.link ∧
    t.mgmt = s.mgmt ∧ t.tx = s.tx ∧ t.pending = s.pending := by
  repeat' apply And.intro
  all_goals
    unfold unblockCommand at h
    (repeat' split at h) <;> (try simp only [Except.ok.injEq, reduceCtorEq] at h) <;> first
      | (subst h; simp; done)
      | contradiction

/-- A circuit command changes the state as its act does, or not at all. -/
theorem part_serveCommand {β : Type} (g : State → β) (trunk channel : Byte) (b : Bool)
    (act : CircuitId → State → Except Reason State) (h : ∀ c t, act c s = .ok t → g t = g s) :
    g (serveCommand trunk channel b act s).1 = g s := by
  unfold serveCommand deny
  repeat' split
  all_goals first | rfl | exact h _ _ ‹_›

/-- A request taken changes a block as its service does, or not at all; the agent's own block aside. -/
theorem part_takeRequest {β : Type} (g : State → β) (hm : ∀ f t, g (State.modMgmt t f) = g t) (e : Entry) (tag code : Byte)
    (f : Service) (h : g (f s).1 = g s) : g (takeRequest e tag code f s) = g s := by
  have hr (r : Reply) (t : State) : g (respond e tag targetLocal r t) = g t := by
    cases e
    all_goals
      unfold respond offerCell
      first
        | exact hm _ t
        | (unfold offerSlotCell; exact hm _ t)
        | (unfold offerSpanCell; exact hm _ t)
  unfold takeRequest serveLocal
  repeat' split
  · exact hr _ _
  · exact (hr _ _).trans h
  · rfl

/-- The services that request bodies name: what holds of each holds of the one that a body names. -/
theorem serviceOf_cases {P : Service → Prop} (deny : ∀ code r, P (deny code r))
    (status : ∀ part start, P (serveStatus part start)) (range : ∀ k a b, P (serveReadRange k a b))
    (slot : ∀ w, P (serveReadSlot w)) (circuit : ∀ k c w p r n, P (serveSetCircuit k c w p r n))
    (fill : ∀ k b o y p, P (serveFillBlock k b o y p))
    (command : ∀ k c h act, (∀ c s t, act c s = .ok t → t.dev = s.dev ∧ t.tx = s.tx ∧ t.pending = s.pending) →
      P (serveCommand k c h act))
    (readTrunk : ∀ k c, P (serveReadTrunk k c)) (function : ∀ k f, P (serveSetFunction k f))
    (codes : ∀ k n i b v, P (serveSetCodes k n i b v)) (insert : ∀ k, P (serveInsert k))
    (withdraw : ∀ k, P (serveWithdraw k)) (readParameters : P serveReadParameters)
    (setParameters : ∀ l, P (serveSetParameters l)) (post : ∀ k a b d w, P (servePostOrder k a b d w))
    (cancel : ∀ n, P (serveCancelOrder n)) (remove : ∀ n, P (serveRemoveOrder n))
    (orders : ∀ f n, P (serveReadOrders f n)) (clear : ∀ w, P (serveClearCauses w))
    (enables : ∀ w, P (serveSetEnables w)) (counters : ∀ g c, P (serveReadCounters g c)) (restart : P serveRestart)
    {b : List Byte} {f : Service} (h : serviceOf b = some f) : P f := by
  have com (k c m : Byte) : P (commandService k c m) := by
    unfold commandService
    split
    · exact command _ _ _ _ fun c s t h => by have := frame_beginCommand s _ h; simp [this]
    · exact command _ _ _ _ fun c s t h => by have := frame_beginCommand s _ h; simp [this]
    · exact command _ _ _ _ fun c s t h => by have := frame_rollCommand s h; simp [this]
    · exact command _ _ _ _ fun c s t h => by have := frame_releaseCommand s h; simp [this]
    · exact command _ _ _ _ fun c s t h => by have := frame_abandonCommand s h; simp [this]
    · exact command _ _ _ _ fun c s t h => by have := frame_pinCommand s h; simp [this]
    · exact command _ _ _ _ fun c s t h => by have := frame_unpinCommand s h; simp [this]
    · exact command _ _ _ _ fun c s t h => by have := frame_unblockCommand s h; simp [this]
    · exact deny _ _
  have set (l : List Byte) : P (setTrunkService l) := by
    unfold setTrunkService
    split
    · exact function _ _
    · exact codes _ _ _ _ _
    · exact insert _
    · exact withdraw _
    · exact deny _ _
  have read (l : List Byte) : P (readCircuitsService l) := by
    unfold readCircuitsService
    split
    · exact range _ _ _
    · exact slot _
    · exact deny _ _
  unfold serviceOf at h
  dsimp only at h
  split at h
  · cases h
  · split at h
    all_goals first
      | cases h
      | (split at h <;> first
          | contradiction
          | (obtain rfl := Option.some.inj h
             first
               | with_reducible exact status _ _ | with_reducible exact read _ | with_reducible exact circuit _ _ _ _ _ _ | with_reducible exact fill _ _ _ _ _ | with_reducible exact com _ _ _
               | with_reducible exact readTrunk _ _ | with_reducible exact set _ | with_reducible exact readParameters | with_reducible exact setParameters _
               | with_reducible exact post _ _ _ _ _ | with_reducible exact cancel _ | with_reducible exact remove _ | with_reducible exact orders _ _ | with_reducible exact clear _
               | with_reducible exact enables _ | with_reducible exact counters _ _ | with_reducible exact restart))

end Sys2Proof.Machine
end

