-- ==== Sys2Proof/Laws/Step.lean ====
section
/-! SUPPORT. The steps that serve cells and the frame of site timing: the straps and the queue of commands stay. -/
namespace Sys2Proof.Machine

variable (s : State)

/-- What every step but a device reset with other pins leaves alone. -/
def State.fixed (s : State) : Straps × List Instr := (s.dev.straps, s.pending)

@[simp] theorem fixed_modMgmt (f : Mgmt → Mgmt) : (s.modMgmt f).fixed = s.fixed := rfl
@[simp] theorem fixed_ite (c : Prop) [Decidable c] (a b : State) :
    State.fixed (if c then a else b) = if c then a.fixed else b.fixed := by split <;> rfl

/-- Equal devices and queues have equal fixed parts. -/
theorem fixed_of {s t : State} (h : t.dev = s.dev) (h' : t.pending = s.pending) : t.fixed = s.fixed := by
  simp [State.fixed, h, h']

@[simp] theorem fixed_respond (e : Entry) (tag tgt : Byte) (r : Reply) : (respond e tag tgt r s).fixed = s.fixed :=
  fixed_of (by simp) (by simp)

/-- Serving a request leaves the fixed part alone. -/
theorem fixed_serviceOf {b : List Byte} {f : Service} (h : serviceOf b = some f) : (f s).1.fixed = s.fixed := by
  revert f
  intro f h
  refine serviceOf_cases (P := fun f => (f s).1.fixed = s.fixed) ?_ ?_ ?_ ?_ ?_ ?_ ?_ ?_ ?_ ?_ ?_ ?_ ?_ ?_ ?_ ?_ ?_ ?_ ?_
    ?_ ?_ ?_ h
  case refine_7 =>
    intro k c h act hk
    exact part_serveCommand s State.fixed k c h act fun c t h => fixed_of (hk c s t h).1 (hk c s t h).2.2
  all_goals
    intros
    exact fixed_of (by simp) (by simp)

@[simp] theorem fixed_forwardRequest (tag code : Byte) (b : List Byte) : (forwardRequest tag code b s).fixed = s.fixed :=
  fixed_of (by simp) (by simp)

theorem fixed_serveLocal (e : Entry) (tag code : Byte) (f : Service) (h : (f s).1.fixed = s.fixed) :
    (serveLocal e tag code f s).fixed = s.fixed := by
  unfold serveLocal
  split
  · simp
  · simpa using h

@[simp] theorem fixed_takeRequestCell (e : Entry) (tag tgt : Byte) (n : Nat) (o : Byte) (b : List Byte) :
    (takeRequestCell e tag tgt n o b s).fixed = s.fixed := by
  unfold takeRequestCell
  dsimp only
  repeat' split
  · simp
  · simp
  · simp
  · simp
  · rename_i f h _
    split at h
    · cases h
    · exact fixed_serveLocal _ _ _ _ _ (fixed_serviceOf _ h)

@[simp] theorem fixed_takeResponse (tag st : Byte) (b : List Byte) : (takeResponse tag st b s).fixed = s.fixed :=
  fixed_of (by simp) (by simp)

@[simp] theorem fixed_countDiscard (e : Entry) : (countDiscard e s).fixed = s.fixed := fixed_of (by simp) (by simp)

@[simp] theorem fixed_countUnlessRestart (e : Entry) : (countUnlessRestart e s).fixed = s.fixed :=
  fixed_of (by simp) (by simp)

@[simp] theorem fixed_handleCell (e : Entry) (l : List Byte) : (handleCell e l s).fixed = s.fixed := by
  unfold handleCell
  dsimp only
  repeat' split
  all_goals simp

@[simp] theorem fixed_takeSlotCell : (takeSlotCell s).fixed = s.fixed := by
  unfold takeSlotCell
  dsimp only
  repeat' split
  all_goals simp

@[simp] theorem fixed_takeSpanCell : (takeSpanCell s).fixed = s.fixed := by
  unfold takeSpanCell
  repeat' split
  all_goals simp

/-- The steps that SITE_FRAME finds due, one by one. -/
theorem fixed_forEach {ι : Type} (l : List ι) (f : ι → State → State) (h : ∀ i t, (f i t).fixed = t.fixed) :
    (forEach l f s).fixed = s.fixed := part_forEach State.fixed l f s h

theorem fixed_takeEach {n : Nat} {α : Type} (t : State → Table n α) (p : α → Bool) (f : Fin n → State → State)
    (h : ∀ i t, (f i t).fixed = t.fixed) : (takeEach t p f s).fixed = s.fixed := fixed_forEach s _ _ h

@[simp] theorem fixed_restartDevice : (restartDevice s.dev.straps s).fixed = s.fixed := by
  unfold restartDevice resetDevice; split <;> rfl

@[simp] theorem fixed_startRunning : (startRunning s).fixed = s.fixed := by
  unfold startRunning; split <;> rfl

@[simp] theorem fixed_endDegradeInterval : (endDegradeInterval s).fixed = s.fixed := fixed_of (by simp) (by simp)
@[simp] theorem fixed_lockTiming : (lockTiming s).fixed = s.fixed := fixed_of (by simp) (by simp)
@[simp] theorem fixed_completeSettle (k : TrunkId) : (completeSettle k s).fixed = s.fixed := fixed_of (by simp) (by simp)
@[simp] theorem fixed_testQuiet (m : MoveId) : (testQuiet m s).fixed = s.fixed := fixed_of (by simp) (by simp)
@[simp] theorem fixed_makeDueRoll (m : MoveId) : (makeDueRoll m s).fixed = s.fixed := fixed_of (by simp) (by simp)
@[simp] theorem fixed_endFreeze (c : CircuitId) : (endFreeze c s).fixed = s.fixed := fixed_of (by simp) (by simp)
@[simp] theorem fixed_completeRestore (c : CircuitId) : (completeRestore c s).fixed = s.fixed := fixed_of (by simp) (by simp)
@[simp] theorem fixed_expireValidity (m : MoveId) : (expireValidity m s).fixed = s.fixed := fixed_of (by simp) (by simp)
@[simp] theorem fixed_expireQuiet (m : MoveId) : (expireQuiet m s).fixed = s.fixed := fixed_of (by simp) (by simp)
@[simp] theorem fixed_timeOutMeasurement (i : CorrId) : (timeOutMeasurement i s).fixed = s.fixed := fixed_of (by simp) (by simp)
@[simp] theorem fixed_expireProgress (m : MoveId) : (expireProgress m s).fixed = s.fixed := fixed_of (by simp) (by simp)
@[simp] theorem fixed_repeatRequest (m : MoveId) : (repeatRequest m s).fixed = s.fixed := fixed_of (by simp) (by simp)
@[simp] theorem fixed_expireSoak (m : MoveId) : (expireSoak m s).fixed = s.fixed := fixed_of (by simp) (by simp)
@[simp] theorem fixed_expireDeadline (n : Byte) : (expireDeadline n s).fixed = s.fixed := fixed_of (by simp) (by simp)
@[simp] theorem fixed_expireProxy : (expireProxy s).fixed = s.fixed := fixed_of (by simp) (by simp)
@[simp] theorem fixed_evaluateWindow (i : CorrId) : (evaluateWindow i s).fixed = s.fixed := fixed_of (by simp) (by simp)
@[simp] theorem fixed_grantCorrelator : (grantCorrelator s).fixed = s.fixed := fixed_of (by simp) (by simp)
@[simp] theorem fixed_grantPart : (grantPart s).fixed = s.fixed := fixed_of (by simp) (by simp)
@[simp] theorem fixed_resolutionPart : (resolutionPart s).fixed = s.fixed := fixed_of (by simp) (by simp)
@[simp] theorem fixed_promotionPart : (promotionPart s).fixed = s.fixed := fixed_of (by simp) (by simp)
@[simp] theorem fixed_takeNotice (p : Notice → Bool) : (takeNotice p s).fixed = s.fixed := fixed_of (by simp) (by simp)
@[simp] theorem fixed_endSlotCell : (endSlotCell s).fixed = s.fixed := fixed_of (by simp) (by simp)

theorem fixed_takeSite : (takeSite s).fixed = s.fixed := by
  unfold takeSite
  simp [fixed_takeEach]

theorem fixed_takeCircuits : (takeCircuits s).fixed = s.fixed := by
  unfold takeCircuits
  simp [fixed_takeEach]

theorem fixed_takeTimers : (takeTimers s).fixed = s.fixed := by
  unfold takeTimers
  simp [fixed_takeEach, fixed_forEach]

theorem fixed_takeUnits : (takeUnits s).fixed = s.fixed := by
  unfold takeUnits
  simp [fixed_takeEach, fixed_forEach]

/-- What is due in a frame leaves the straps and the queue of commands alone. -/
@[simp] theorem fixed_takeDue : (takeDue s).fixed = s.fixed := by
  unfold takeDue
  rw [fixed_takeUnits, fixed_takeTimers, fixed_takeCircuits, fixed_takeSite]

/-- A frame of site timing leaves the straps and the queue of commands alone. -/
@[simp] theorem fixed_siteFrame : (siteFrame s).fixed = s.fixed := by
  unfold siteFrame openFrame
  rw [fixed_of (s := takeDue s) (by simp) (by simp), fixed_takeDue]

end Sys2Proof.Machine
end

