-- ==== Sys2Proof/Laws/Ops.lean ====
section
/-! SUPPORT. What each shared operation does: causes, cells, notices, requests, slots, paths and the ends of moves. -/
namespace Sys2Proof.Machine

variable (s : State)

/-! Causes -/

@[simp] theorem causes_offerSlotCell (oc : OutCell) : (offerSlotCell oc s).mgmt.causes = s.mgmt.causes := by
  unfold offerSlotCell; simp; split <;> rfl

@[simp] theorem causes_offerSpanCell (oc : OutCell) : (offerSpanCell oc s).mgmt.causes = s.mgmt.causes := by
  unfold offerSpanCell; simp; split <;> rfl

@[simp] theorem causes_offerEvent : (offerEvent s).mgmt.causes = s.mgmt.causes := by
  unfold offerEvent; split <;> simp

@[simp] theorem causes_judgeAttention : (judgeAttention s).mgmt.causes = s.mgmt.causes := by
  unfold judgeAttention; dsimp only; split <;> simp

/-- Raising a cause adds it to the pending set and takes none away. -/
@[simp] theorem causes_raise (c : Cause) : (raise c s).mgmt.causes = s.mgmt.causes ||| c.bit := by
  unfold raise; simp

/-- A cause just raised is pending. -/
@[simp] theorem or_and_bit (m b : BitVec 12) : (m ||| b) &&& b = b := by
  apply BitVec.eq_of_getLsbD_eq
  intro i _
  cases h : b.getLsbD i <;> simp [h]

/-! Attention -/

@[simp] theorem attention_offerSlotCell (oc : OutCell) : (offerSlotCell oc s).mgmt.attention = s.mgmt.attention := by
  unfold offerSlotCell; simp; split <;> rfl

@[simp] theorem enables_offerSlotCell (oc : OutCell) : (offerSlotCell oc s).mgmt.enables = s.mgmt.enables := by
  unfold offerSlotCell; simp; split <;> rfl

@[simp] theorem attention_offerEvent : (offerEvent s).mgmt.attention = s.mgmt.attention := by
  unfold offerEvent; split <;> simp

@[simp] theorem enables_offerEvent : (offerEvent s).mgmt.enables = s.mgmt.enables := by
  unfold offerEvent; split <;> simp

/-- Attention is present exactly while a cause is both pending and enabled. -/
@[simp] theorem attention_judgeAttention : (judgeAttention s).mgmt.attention = (s.mgmt.hot != 0) := by
  unfold judgeAttention; dsimp only; split <;> simp

@[simp] theorem enables_judgeAttention : (judgeAttention s).mgmt.enables = s.mgmt.enables := by
  unfold judgeAttention; dsimp only; split <;> simp

/-! Cells -/

/-- A cell offered to a queue with room joins its tail. -/
theorem offerSlotCell_room (oc : OutCell) (h : s.mgmt.slotQ.length < cellQueueSize) :
    offerSlotCell oc s = s.modMgmt fun g => { g with slotQ := g.slotQ ++ [oc] } := by
  simp [offerSlotCell, State.modMgmt, h]

theorem offerSpanCell_room (oc : OutCell) (h : s.mgmt.spanQ.length < cellQueueSize) :
    offerSpanCell oc s = s.modMgmt fun g => { g with spanQ := g.spanQ ++ [oc] } := by
  simp [offerSpanCell, State.modMgmt, h]

/-- A cell offered to a full queue is dropped and counted; a RESTART response dropped is kept in mind for its reset. -/
theorem offerSlotCell_full (oc : OutCell) (h : cellQueueSize ≤ s.mgmt.slotQ.length) :
    offerSlotCell oc s = s.modMgmt fun g =>
      { g with slotDiscards := bump g.slotDiscards, restart := if oc.restart then .dropped else g.restart } := by
  simp [offerSlotCell, State.modMgmt, Nat.not_lt.mpr h]

/-! Notices -/

/-- A notice offered on a usable span to a queue with room joins its tail. -/
theorem offerNotice_room (n : Notice) (o : Option MoveId) (hu : s.span.usable = true)
    (h : s.link.outQ.length < outboundSize) :
    offerNotice n o s = s.modLink fun l => { l with outQ := l.outQ ++ [⟨n, o⟩] } := by
  simp [offerNotice, hu, h]

/-- A notice offered while the span is not usable is discarded uncounted. -/
theorem offerNotice_down (n : Notice) (o : Option MoveId) (hu : s.span.usable = false) : offerNotice n o s = s := by
  simp [offerNotice, hu]

end Sys2Proof.Machine
end

