-- ==== Sys2Proof/Tests/Slice0.lean ====
section
/-! SUPPORT. Small tests: ill-formed commands are refused; every statement's hypotheses are met by a concrete state, clause
by clause; and one effect of the rows on small states. -/
open Sys2Proof Sys2Proof.Machine
namespace Sys2Proof.Tests

set_option Elab.async false

/-! Small states -/

/-- Channel 1 of trunk 6. -/
def ca : CircuitId := 180
/-- Channel 2 of trunk 6. -/
def cb : CircuitId := 181
/-- Channel 31 of trunk 2, the management channel of the example straps. -/
def cm : CircuitId := 89

/-- An available port that waits for the last frame of a multiframe. -/
def goodPort : PortRx :=
  { PortRx.reset with
    align := .aligned, mf := .aligned 14 0 (List.replicate 14 0x99), available := true, carriesWord := false }

/-- A usable span. -/
def goodSpan : SpanRx :=
  { SpanRx.reset with
    align := .aligned, rxNumber := some 0, present := true, usable := true, peerState := some .running
    peerEnd := some (some .b) }

/-- A running device in frame `f`: usable span, trunk 6 inserted on available ports, two circuits of it mapped to span slots
0 and 1, the management trunk inserted. -/
def upAt (f : Frame) : State :=
  let s := State.reset
  { s with
    dev := { s.dev with devState := .running }
    timing := { s.timing with count := f, refPort := 6 }
    trunks := (s.trunks.modify 6 fun t => { t with insertion := .inserted, bypass := false }).modify 2 fun t =>
      { t with insertion := .inserted, bypass := false }
    sw := s.sw.set 6 goodPort
    line := s.line.set 6 goodPort
    span := goodSpan
    map := { loaded := (s.map.loaded.modify ca fun i => { i with slot := some 0 }).modify cb fun i =>
               { i with slot := some 1 }
             directory := (s.map.directory.set 0 (some ca)).set 1 (some cb) }
    circuits := (s.circuits.modify ca fun r => { r with conditioned := false }).modify cb fun r =>
      { r with conditioned := false } }

/-- The same in frame 32, a multiframe boundary. -/
def up : State := upAt 32

/-- The circuit under test changed. -/
def withCa (s : State) (f : Circuit → Circuit) : State := s.modCirc ca f

/-- A move of the circuit under test. -/
def someMove (d : Dir) : Move :=
  { circuit := ca, tag := 7, peerTag := some 9, role := .initiator, kind := .hitless, dir := d, request := none,
    peerRolled := false, ownRolledNoted := false, rollDue := none, progress := .stopped, quiet := .stopped,
    validity := .stopped, soak := .stopped, result := none, order := none, made := none, tested := false }

/-- The circuit under test in flight in move slot 0, with state `st` and the move changed by `f`. -/
def flying (st : MoveState) (d : Dir) (f : Move → Move) (s : State := up) : State :=
  { s with
    moves := { s.moves with slots := s.moves.slots.set 0 (some (f (someMove d))) }
    circuits := s.circuits.modify ca fun r =>
      { r with state := st, dir := some d, moveSlot := some 0, sel := d.oldPath, cuTx := true, spTx := true } }

/-- A notice that names the circuit under test. -/
def note (k : NoticeKind) (d : Dir := .toSpan) (force : Bool := false) (tag : Word16 := 9) : Notice :=
  { kind := k, dir := d, force := force, slot := 0, tag := tag }

/-- A notice put at the head of the inbound queue. -/
def hears (n : Notice) (s : State) : State := { s with link := { s.link with inQ := n :: s.link.inQ } }

/-- A pending request. -/
def pendingRequest (k : ReqKind) (tries : Nat := 3) (timer : Timer := .counting 0) : Option Request :=
  some { kind := k, force := false, tries := tries, timer := timer }

/-- The octets of a span frame from its number to its channels: number `n`, peer status `st`, first notice position `pos`. -/
def frameBody (n st : Byte) (pos : List Byte) : List Byte :=
  [0, n, st] ++ List.replicate 8 0 ++ pos ++ List.replicate 8 0 ++ List.replicate 528 0xD5

/-- The frame of a body with the CRC changed by `err`. -/
def bodyFrame (b : List Byte) (err : Word16) : List Byte := [0x3C, 0xA5, 0x5A, 0xC3] ++ b ++ be16 (crc16 b ^^^ err)

/-- A frame is errored exactly when its CRC is changed. -/
theorem errored_iff (b : List Byte) (err : Word16) (h : b.length = 555) :
    spanErrored (bodyFrame b err) = (err != 0) := by
  have e1 : ((bodyFrame b err).drop 4).take 555 = b := by simp [bodyFrame, ← h]
  have e2 : octetAt (bodyFrame b err) 559 = (crc16 b ^^^ err).extractLsb' 8 8 := by simp [octetAt, bodyFrame, be16, h]
  have e3 : octetAt (bodyFrame b err) 560 = (crc16 b ^^^ err).extractLsb' 0 8 := by simp [octetAt, bodyFrame, be16, h]
  unfold spanErrored word16
  rw [e1, e2, e3]
  generalize crc16 b = x
  have : ((x ^^^ err).extractLsb' 8 8 ++ (x ^^^ err).extractLsb' 0 8 : BitVec 16) = x ^^^ err := by
    apply BitVec.eq_of_getLsbD_eq
    intro i hi
    simp only [BitVec.getLsbD_append, BitVec.getLsbD_extractLsb']
    by_cases h8 : i < 8
    · simp [h8]
    · have : i - 8 < 8 := by omega
      have e : 8 + (i - 8) = i := by omega
      simp [h8, this, e]
  rw [this]
  by_cases h0 : err = 0
  · subst h0; simp
  · have : x ≠ x ^^^ err := fun hx => h0 (by
      have h2 : x ^^^ x = x ^^^ (x ^^^ err) := by rw [← hx]
      rw [← BitVec.xor_assoc, BitVec.xor_self, BitVec.zero_xor] at h2; exact h2.symm)
    rw [bne_iff_ne.mpr this, bne_iff_ne.mpr h0]

/-- The circuit's move is the only one. -/
theorem only_move {s : State} {v : Move} (h : s.moves.slots = (Table.replicate 64 none).set 0 (some v)) (m : MoveId) (w : Move)
    (hw : s.move? m = some w) : m = 0 ∧ w = v := by
  unfold State.move? at hw
  rw [h, Table.get_set] at hw
  by_cases e : (0 : MoveId) = m
  · rw [if_pos e] at hw; exact ⟨e.symm, (Option.some.inj hw).symm⟩
  · rw [if_neg e] at hw; simp at hw

/-- The one move's pending request is the one that an answer answers. -/
theorem answers_only {s : State} {n : Notice} {k : ReqKind} {v : Move}
    (h : s.moves.slots = (Table.replicate 64 none).set 0 (some v))
    (hm : v.tag = n.tag ∧ v.request.map Request.kind = some k ∧ v.dir = n.dir ∧
      (s.info v.circuit).slot = some n.slot) :
    Answers s n k 0 v := by
  refine ⟨?_, fun m' v' hv => ?_⟩
  · unfold State.move?; rw [h]; simp
  · obtain ⟨e1, e2⟩ := only_move h m' v' hv
    subst e1; subst e2
    exact ⟨fun _ => rfl, fun _ => hm⟩

/-! Well-formedness: each check refuses an ill-formed command, and admits the command at its bounds -/

theorem test_port_frame_length :
    (Instr.portFrameReceived (.sw 0) (List.replicate 31 0)).wellFormed = false ∧
    (Instr.portFrameReceived (.sw 0) (List.replicate 33 0)).wellFormed = false ∧
    (Instr.portFrameReceived (.sw 0) (List.replicate 32 0)).wellFormed = true := by decide +kernel

theorem test_span_frame_length :
    (Instr.spanFrameReceived (List.replicate 560 0)).wellFormed = false ∧
    (Instr.spanFrameReceived (List.replicate 561 0)).wellFormed = true := by decide +kernel

theorem test_proxy_request_length :
    (Instr.proxyRequest 0 []).wellFormed = false ∧ (Instr.proxyRequest 0 (List.replicate 56 0)).wellFormed = false ∧
    (Instr.proxyRequest 0 [1]).wellFormed = true ∧ (Instr.proxyRequest 0 (List.replicate 55 0)).wellFormed = true := by
  decide +kernel

theorem test_proxy_response_length :
    (Instr.proxyResponse 0 0 (List.replicate 56 0)).wellFormed = false ∧
    (Instr.proxyResponse 0 0 (List.replicate 55 0)).wellFormed = true := by decide +kernel

theorem test_set_parameters_length :
    (Instr.setParameters .slot 0 []).wellFormed = false ∧
    (Instr.setParameters .slot 0 (List.replicate 19 (1, 0))).wellFormed = false ∧
    (Instr.setParameters .slot 0 (List.replicate 18 (1, 0))).wellFormed = true := by decide +kernel

/-- The CRC of the digits 1 to 9 with this generator and preset is 29B1 (DEDUCED: the parameters of R29 and 10.3). -/
theorem test_crc16 : crc16 [0x31, 0x32, 0x33, 0x34, 0x35, 0x36, 0x37, 0x38, 0x39] = 0x29B1 := by decide +kernel

/-- The table gives no row any bits, so no word spells a command. -/
theorem test_no_word_decodes : decodeTableWord 8 0 = none ∧ decodeTableWord 32 0x12345678 = none ∧
    State.reset.withFetchWord 8 0 = State.reset := ⟨rfl, rfl, rfl⟩

/-! Witnesses: queue, power, reset, frames -/

/-! Small states on which the witnesses rest -/

/-- What a command answers on a small state, for tests. -/
def after (c : Instr) (s : State) : State :=
  match exec c s with
  | .next t => t
  | _ => s

/-- The small state with something in every store that is read. -/
def quiet : State :=
  (up.modPort (.line 6) fun r => { r with store := [⟨ffFrame, none⟩] }).modSpan fun r => { r with store := [ffSpan] }

/-- In the small state every circuit is at HOME without a move slot. -/
theorem home_up (f : Frame) (c : CircuitId) : ((upAt f).circ c).state = .home ∧ ((upAt f).circ c).moveSlot = none ∧
    ((upAt f).circ c).dir = none ∧ ((upAt f).circ c).order = none := by
  have hc : (upAt f).circuits = ((Table.ofFn fun c => Circuit.reset (strapMgmtCircuit exampleStraps = some c)).modify ca
      fun r => { r with conditioned := false }).modify cb fun r => { r with conditioned := false } := rfl
  unfold State.circ
  rw [hc, Table.get_modify, Table.get_modify, Table.get_ofFn]
  by_cases h1 : cb = c <;> by_cases h2 : ca = c <;> simp [h1, h2, Circuit.reset]

/-- With the one move in flight circuits and move slots point at one another. -/
theorem moves_flying (f : Frame) (st : MoveState) (d : Dir) (g : Move → Move) (hst : st.atRest = false)
    (hc : (g (someMove d)).circuit = ca) (hd : (g (someMove d)).dir = d) (ho : (g (someMove d)).order = none) :
    MovesSound (flying st d g (upAt f)) := by
  have hm : ∀ m, (flying st d g (upAt f)).move? m = if (0 : MoveId) = m then some (g (someMove d)) else none := fun m => by
    show ((Table.replicate 64 none).set 0 (some (g (someMove d)))).get m = _
    rw [Table.get_set]; simp
  have hr : ∀ c, (flying st d g (upAt f)).circ c =
      if ca = c then { (upAt f).circ c with
        state := st, dir := some d, moveSlot := some 0, sel := d.oldPath, cuTx := true, spTx := true }
      else (upAt f).circ c := fun c => by
    simp only [flying, State.circ, Table.get_modify]
  refine ⟨fun c m => ?_, fun c => ?_, fun m v h => ?_, fun c h => ?_⟩
  · rw [hm, hr]
    by_cases h1 : ca = c <;> by_cases h2 : (0 : MoveId) = m <;> simp [h1, h2, home_up, hc]
  · rw [hr]
    by_cases h1 : ca = c
    · simp [h1, hst]
    · rw [if_neg h1]
      simp [home_up]
      decide
  · rw [hm] at h
    by_cases h2 : (0 : MoveId) = m
    · rw [if_pos h2] at h
      cases h
      have := (home_up f ca).2.2.2
      simp [hr, hc, hd, ho, this]
    · rw [if_neg h2] at h; exact absurd h (by simp)
  · rw [hr] at h ⊢
    by_cases h1 : ca = c
    · rw [if_pos h1] at h; exact absurd h (by simp)
    · rw [if_neg h1]; exact ⟨(home_up f c).2.2.1, (home_up f c).2.2.2⟩

/-! Witnesses -/

theorem test_wit_StepRunsFrontOfQueue : State.reset.pending = [] ∧
    ∃ c rest, { up with pending := [.siteFrame, .deviceRunning] }.pending = c :: rest := ⟨rfl, _, _, rfl⟩

theorem test_wit_StrapsSampledAtReset :
    (∃ pins : Straps, pins.site = 0b01 ∧ pins.mslot = 0 ∧ pins.mgmt.toNat = (15 : TrunkId).val) ∧
    (∃ pins : Straps, pins.site = 0b10 ∧ pins.mslot = 1 ∧ 16 ≤ pins.mgmt.toNat) ∧
    (∃ pins : Straps, pins.site = 0b00) ∧ (∃ pins : Straps, pins.site = 0b11) ∧
    (∃ s : State, s.dev.powered = true ∧ s.mgmt.restart = .due) ∧
    ∃ t, exec .siteTimingLock up = .next t :=
  ⟨⟨⟨1, 15, 0, 0⟩, by decide +kernel⟩, ⟨⟨2, 16, 1, 0⟩, by decide +kernel⟩, ⟨⟨0, 0, 0, 0⟩, rfl⟩, ⟨⟨3, 0, 0, 0⟩, rfl⟩,
    ⟨{ up with mgmt := { up.mgmt with restart := .due } }, by decide +kernel⟩, _, rfl⟩

theorem test_wit_RestartResetAndLossOfSupply :
    { up with dev := { up.dev with powered := false } }.dev.powered = false ∧ Instr.siteFrame ≠ .deviceUnpowered ∧
    up.dev.powered = true ∧ up.mgmt.restart ≠ .due ∧
    { up with mgmt := { up.mgmt with restart := .due } }.mgmt.restart = .due := by decide +kernel

theorem test_wit_SiteFrameCountsSendsAndKeepsHistory :
    up.dev.powered = true ∧ up.mgmt.restart ≠ .due ∧ (0 : Fin 512) ≠ rowIndex 33 := by decide +kernel

/-- The small state after its due steps: what each of the clauses asks of a port, of the span, of the timers. -/
theorem test_wit_SiteFrameOpensTheNextFrame :
    let full := (up.modPort (.sw 6) fun r => { r with store := [⟨ffFrame, none⟩] }).modSpan fun r =>
      { r with store := [ffSpan] }
    let u := takeDue up
    let f := takeDue full
    up.dev.powered = true ∧ up.mgmt.restart ≠ .due ∧ (u.port (.sw 5)).align ≠ .aligned ∧
    (u.port (.sw 6)).align = .aligned ∧ (u.port (.sw 6)).store = [] ∧
    (f.port (.sw 6)).store = ⟨ffFrame, none⟩ :: [] ∧ u.span.align = .aligned ∧ u.span.store = [] ∧
    f.span.store = ffSpan :: [] ∧ (takeDue State.reset).span.align ≠ .aligned ∧
    (u.sw.get u.timing.refPort).available = true ∧ u.timing.qual < 8000 ∧ u.span.interval + 1 ≠ 8000 ∧
    (takeDue (up.modSpan fun r => { r with interval := 7999 })).span.interval + 1 = 8000 := by decide +kernel

/-- A function set before, to SPAN_ONLY and from it, and the circuit it concerns. -/
theorem test_wit_SiteFrameTakesFunctions :
    let a := up.modTrunk 6 fun t => { t with coming := some .spanOnly }
    let b := up.modTrunk 6 fun t => { t with function := .spanOnly, coming := some .trunk }
    ((takeDue a).trunk 6).coming = some .spanOnly ∧ ((takeDue a).trunk 6).function ≠ .spanOnly ∧
    ((takeDue b).trunk 6).coming = some .trunk ∧ ((takeDue b).trunk 6).function = .spanOnly ∧
    ((takeDue b).line.get 6).available = true ∧ trunkOf ca = 6 ∧ ((takeDue a).circ ca).sel = .copper ∧
    ((takeDue a).info ca).mgmt = false ∧ (List.finRange 64).all (fun m => ((takeDue a).move? m).isNone) = true ∧
    ((after .siteFrame a).circ ca).conditioned = true ∧ ((after .siteFrame b).circ ca).conditioned = false := by
  decide +kernel

/-- The ABANDON of a move that loses its copper path to a function change is carried in the frame after, in which its repeat
timer counts first. -/
theorem test_abandon_joins_next_frame :
    let s := (flying .bridged .toCopper id).modTrunk 6 fun t => { t with coming := some .spanOnly }
    let t := after .siteFrame s
    let u := after .siteFrame t
    let abandon := note (.req .abandon) .toCopper false 7
    (t.circ ca).state = .abandoning ∧ t.link.txFirst = none ∧ t.link.outQ = [⟨abandon, some 0⟩] ∧
    ((t.move? 0).bind Move.request).map Request.timer = some (.counting 0) ∧
    u.link.txFirst = some abandon ∧ u.link.outQ = [] ∧
    ((u.move? 0).bind Move.request).map Request.timer = some (.counting 1) := by decide +kernel

/-- A frame before a multiple of 8 with a span cell queued, a locked and an unlocked slot entry, a RESTART's response in its
last octet or piece, a frame in which nothing slips, and one in which notices wait, held off or not. -/
theorem test_wit_SiteFrameSendsAndTakes :
    let e := takeDue (upAt 39)
    let q := takeDue { upAt 39 with mgmt := { up.mgmt with spanQ := [{ cell := idleCell, restart := false }] } }
    let l := takeDue { up with mgmt := { up.mgmt with slotRx := { locked := true, bad := 0, buf := [] } } }
    let z := takeDue { upAt 39 with mgmt := { up.mgmt with
      spanTx := { octets := encodeCell idleCell, restart := true },
      slotTx := some { octets := encodeCell idleCell, sent := 63, restart := true } } }
    let d := takeDue { up with mgmt := { up.mgmt with restart := .dropped } }
    let n := takeDue { quiet with link := { quiet.link with outQ := [⟨note (.req .block), none⟩] } }
    let h := takeDue ({ quiet with link := { quiet.link with outQ := [⟨note (.req .block), none⟩] } }.modSpan fun r =>
      { r with peerHoldOff := true })
    (after .siteFrame (upAt 39)).timing.count.toNat % 8 = 0 ∧ (after .siteFrame up).timing.count.toNat % 8 ≠ 0 ∧
    e.mgmt.spanQ = [] ∧ q.mgmt.spanQ = { cell := idleCell, restart := false } :: [] ∧ e.slotEntryOpen = true ∧
    (takeDue State.reset).slotEntryOpen = false ∧ e.mgmt.slotRx.locked = false ∧ l.mgmt.slotRx.locked = true ∧
    strapMgmtTrunk e.dev.straps = some 2 ∧ strapMgmtCircuit e.dev.straps = some cm ∧ z.mgmt.spanTx.restart = true ∧
    z.now.toNat % 8 = 7 ∧ (z.mgmt.slotTx.any fun x => x.restart && x.sent + 1 = 64) = true ∧
    d.mgmt.restart = .dropped ∧
    (n.trunks.cells.all fun t => t.coming.isNone) = true ∧ (n.align.copperDeleted.cells.all fun b => !b) = true ∧
    n.align.spanDeleted = false ∧ (n.line.cells.all fun r => r.align != .aligned || r.store != []) = true ∧
    n.span.store ≠ [] ∧ n.span.usable = true ∧ n.span.peerHoldOff = false ∧ n.link.outQ.length = 1 ∧
    h.span.peerHoldOff = true ∧ (takeDue State.reset).span.usable = false := by decide +kernel

theorem test_wit_E1FramesComposed :
    (trunkOf ca = 6 ∧ up.now.toNat % 2 = 0 ∧ up.now.toNat % 16 = 0 ∧ (upAt 33).now.toNat % 2 = 1 ∧
      (upAt 33).now.toNat % 16 ≠ 0 ∧ channelOf ca = (upAt 33).now.toNat % 16 ∧
      channelOf 195 = (upAt 33).now.toNat % 16 + 16 ∧ trunkOf 195 = 6 ∧
      channelOf 194 = (upAt 47).now.toNat % 16 ∧ channelOf 209 = (upAt 47).now.toNat % 16 + 16) ∧
    ((up.modTrunk 6 fun t => { t with function := .spanOnly }).trunk 6).function = .spanOnly ∧
    (up.trunk 6).function ≠ .spanOnly ∧ (up.circ ca).cuTx = true ∧
    ((withCa up fun r => { r with cuTx := false }).circ ca).cuTx = false ∧ (up.line.get 6).align = .aligned ∧
    (up.line.get 5).align ≠ .aligned := by decide +kernel

theorem test_wit_SwitchHearsFirstCaseThatApplies :
    consumed up cm = true ∧ consumed up ca = false ∧ (up.circ ca).conditioned = false ∧
    ((withCa up fun r => { r with conditioned := true }).circ ca).conditioned = true ∧
    ((withCa up fun r => { r with blocked := true }).circ ca).blocked = true ∧
    ((withCa up fun r => { r with freeze := some ⟨5, 64⟩ }).circ ca).freeze = some ⟨5, 64⟩ ∧
    (up.circ ca).sel = .copper ∧ (up.circ ca).freeze = none ∧ (up.circ ca).blocked = false ∧
    ((withCa up fun r => { r with sel := .span }).circ ca).sel = .span := by decide +kernel

theorem test_wit_SwitchHearsTheAgent :
    let x : SlotTx := ⟨encodeCell idleCell, 1, false⟩
    let s := { up with mgmt := { up.mgmt with slotTx := some x } }
    s.mgmt.slotTx = some x ∧ consumed s cm = true ∧ up.mgmt.slotTx = none ∧ heardOctet s cm = 0x4B :=
  ⟨rfl, by decide +kernel⟩

theorem test_wit_SpanFrameComposed :
    let n := note (.refuse .sequence .swap) .toCopper
    let s := { up with link := { up.link with txFirst := some n } }
    let down := up.modSpan fun r => { r with usable := false }
    (up.mgmt.spanTx.octets.length = 64 ∧ up.map.directory.get 511 = none ∧ up.map.directory.get 0 = some ca ∧
      (up.circ ca).spTx = false ∧ ((flying .bridged .toSpan id).circ ca).spTx = true ∧ s.mgmt.spanTx.octets.length = 64 ∧
      s.span.usable = true ∧ s.link.txFirst = some n ∧ s.link.txSecond = none ∧ down.span.usable = false ∧
      (∀ r d, note (.req .block) ≠ note (.refuse r d))) ∧
    (15, some n) ∈ [(15, s.link.txFirst), (23, s.link.txSecond)] ∧ (23, none) ∈ [(15, s.link.txFirst), (23, s.link.txSecond)] :=
  ⟨by refine ⟨?_, ?_, ?_, ?_, ?_, ?_, ?_, ?_, ?_, ?_, fun r d h => by cases h⟩ <;> decide +kernel,
    List.mem_cons_self, List.mem_cons_of_mem _ List.mem_cons_self⟩

theorem test_wit_StoreReads :
    (up.port (.sw 0)).align ≠ .aligned ∧ (up.port (.sw 6)).align = .aligned ∧ (up.port (.sw 6)).store = [] ∧
    portSilent up (.sw 6) = false ∧
    ((up.modPort (.sw 6) fun r => { r with store := [⟨ffFrame, none⟩] }).port (.sw 6)).store = ⟨ffFrame, none⟩ :: [] ∧
    up.span.align = .aligned ∧ up.span.store = [] ∧ State.reset.span.align ≠ .aligned ∧
    (up.modSpan fun r => { r with store := [ffSpan] }).span.store = ffSpan :: [] := by decide +kernel

/-! Witnesses: ports and span -/

theorem no_move {s : State} (h : s.moves.slots = Table.replicate 64 none) (m : MoveId) (v : Move)
    (hv : s.move? m = some v) : False := by
  unfold State.move? at hv; rw [h] at hv; simp at hv

theorem test_wit_PortLosEvaluated :
    up.dev.powered = true ∧ (up.port (.sw 6)).available = true ∧ (up.port (.line 6)).available = true ∧
    portSilent up (.sw 6) = false ∧ portTrunk (.sw 6) = 6 ∧ up.timing.refPort = 6 ∧
    { up with timing := { up.timing with refPort := 5 } }.timing.refPort ≠ 6 ∧
    ((up.modTrunk 6 fun t => { t with insertion := .acquiring }).trunk 6).insertion = .acquiring ∧ trunkOf ca = 6 ∧
    (up.trunk 6).function ≠ .spanOnly ∧ (up.circ ca).sel = .copper ∧ (up.info ca).mgmt = false ∧
    ∀ m v, up.move? m = some v → v.circuit ≠ ca := by
  refine ⟨?_, ?_, ?_, ?_, ?_, ?_, ?_, ?_, ?_, ?_, ?_, ?_, fun m v h => (no_move rfl m v h).elim⟩ <;> decide +kernel

/-- Copper is lost under a move in any in-flight state and direction, with a roll due or none. -/
theorem test_wit_PortLosEndsMoves (st : MoveState) (hst : st.atRest = false) (d : Dir) (r : Option RollDue) :
    let v : Move := { someMove d with rollDue := r }
    let s := flying st d fun _ => v
    MovesSound s ∧ s.move? 0 = some v ∧ trunkOf v.circuit = 6 ∧ v.dir = d ∧ v.rollDue = r ∧
    (s.circ v.circuit).state = st ∧ s.dev.powered = true ∧ (s.port (.line 6)).available = true ∧
    (s.trunk 6).function ≠ .spanOnly := by
  refine ⟨moves_flying 32 st d _ hst rfl rfl rfl, rfl, (by decide : trunkOf ca = 6), rfl, rfl, ?_, ?_, ?_, ?_⟩
  · simp only [flying, State.circ, someMove, Table.get_modify_self]
  all_goals
    simp only [flying, State.port, State.trunk]
    decide +kernel

/-- Five chunks of a port's stream that carries the alignment word in the second bit of each even frame: the held bits of
four from that bit on, and the fifth, make the word seen three times. -/
theorem test_wit_AlignmentEnteredPort :
    let even : List Byte := 0x1B :: List.replicate 31 0xFF
    let odd : List Byte := List.replicate 32 0xFF
    let word : List Bool := [false, false, true, true, false, true, true]
    let s := up.modPort (.line 5) fun r => { r with
      align := .confirm, bits := (octetsBits (even ++ odd ++ even ++ odd)).drop 1 }
    let l := (s.port (.line 5)).bits ++ octetsBits even
    s.dev.powered = true ∧ even.length = 32 ∧ (s.port (.line 5)).los = false ∧ (s.port (.line 5)).align ≠ .aligned ∧
    0 + word.length ≤ l.length ∧ (l.drop 0).take word.length = word ∧ (l.drop (0 + 512)).take word.length = word ∧
    (l.drop (0 + 2 * 512)).take word.length = word ∧ 0 + 1279 ≤ l.length ∧ l.length < 0 + 1535 ∧
    (let one := (up.port (.line 5)).bits ++ octetsBits even
    1 + word.length ≤ one.length ∧ (one.drop 0).take word.length ≠ word ∧ (one.drop 1).take word.length = word ∧
      one.length < 1 + 512 ∧ one.length < 1 + 1279) ∧
    upperCode (octetAt (bitsOctets 32 ((l.drop (0 + 1023)).take 256)) 16) ≠ 0 := by decide +kernel

/-- In a stream of ones every place is refuted. -/
theorem test_wit_AlignmentEnteredRefuted (j : Nat) :
    ((octetsBits (List.replicate 32 (0xFF : Byte))).drop j).take 7 ≠ [false, false, true, true, false, true, true] := by
  intro h
  have hm : false ∈ octetsBits (List.replicate 32 (0xFF : Byte)) :=
    List.mem_of_mem_drop (List.mem_of_mem_take (h ▸ (by simp : false ∈ [false, false, true, true, false, true, true])))
  revert hm
  decide +kernel

theorem test_wit_PortFrameReceived :
    let s := up
    let w2 := up.modPort (.sw 6) fun r => { r with carriesWord := true, wrong := 2 }
    let w0 := up.modPort (.sw 6) fun r => { r with carriesWord := true, store := [⟨ffFrame, none⟩, ⟨ffFrame, none⟩] }
    let bad : List Byte := List.replicate 32 0
    let good : List Byte := 0x1B :: List.replicate 31 0
    (s.dev.powered = true ∧ bad.length = 32 ∧ good.length = 32 ∧ (s.port (.sw 6)).los = false ∧
      (s.port (.sw 6)).align = .aligned ∧ (s.port (.sw 6)).bits = [] ∧ (s.port (.sw 6)).carriesWord = false ∧
      (s.port (.sw 6)).wrong < 3 ∧ (s.port (.sw 6)).store.length < 2 ∧
      (w2.port (.sw 6)).carriesWord = true ∧ octetAt bad 0 &&& 0x7F ≠ 0x1B ∧ 2 = (w2.port (.sw 6)).wrong ∧
      (w0.port (.sw 6)).carriesWord = true ∧ (w0.port (.sw 6)).wrong < 2 ∧ octetAt good 0 &&& 0x7F = 0x1B ∧
      2 ≤ (w0.port (.sw 6)).store.length ∧ portSilent w0 (.sw 6) = false) ∧
    (octetAt (List.replicate 32 (0xFF : Byte)) 0).getLsbD 5 = true ∧ (octetAt bad 0).getLsbD 5 = false ∧
    (octetsBits (List.replicate 32 (0xFF : Byte))).countP (fun b => !b) ≤ 2 ∧
    2 < (octetsBits bad).countP (fun b => !b) := by
  decide +kernel

/-- Each state of multiframe alignment, with the pattern of frame 0 in slot 16 and without it. -/
theorem test_wit_PortFrameMultiframe :
    let with_ (m : MfState) := up.modPort (.line 6) fun r => { r with mf := m, carriesWord := true }
    let none16 : List Byte := 0x1B :: List.replicate 31 0x99
    let zero16 : List Byte := 0x1B :: List.replicate 31 0
    let odd3 : List Byte := (List.replicate 15 (0x99 : Byte)).set 3 0
    ((with_ .search).port (.line 6)).mf = .search ∧ ((with_ .search).port (.line 6)).carriesWord = true ∧
    upperCode (octetAt zero16 16) = 0 ∧ ¬ upperCode (octetAt none16 16) = 0 ∧
    ((with_ (.confirm odd3)).port (.line 6)).mf = .confirm odd3 ∧ odd3.length = 15 ∧ upperCode (octetAt odd3 3) = 0 ∧
    upperCode (octetAt odd3 1) ≠ 0 ∧ ((with_ (.confirm [])).port (.line 6)).mf = .confirm [] ∧
    (after (.portFrameReceived (.line 6) none16) (with_ (.confirm odd3))).line.get 6 =
      { (after (.portFrameReceived (.line 6) none16) (with_ (.confirm odd3))).line.get 6 with
        mf := .confirm ((odd3 ++ [0x99]).drop 4) } ∧
    ((with_ (.aligned 15 0 [])).port (.line 6)).mf = .aligned 15 0 [] ∧
    ((with_ (.aligned 15 1 [])).port (.line 6)).mf = .aligned 15 1 [] := by decide +kernel

/-- A copper port that AIS held unavailable becomes available with the first frame that is no AIS. -/
theorem test_wit_PortFrameRestores :
    let s := up.modPort (.line 6) fun r => { r with ais := true, available := false, mf := .aligned 3 0 [0, 0, 0] }
    let t := after (.portFrameReceived (.line 6) (List.replicate 32 0x55)) s
    (s.port (.line 6)).available = false ∧ (t.port (.line 6)).available = true ∧ (s.trunk 6).function ≠ .spanOnly ∧
    trunkOf ca = 6 ∧ (s.circ ca).sel = .copper := by decide +kernel

theorem test_wit_MultiframeCodesObserved :
    (up.dev.powered = true ∧ (List.replicate 32 (0x55 : Byte)).length = 32 ∧ (up.port (.line 6)).los = false ∧
      (up.port (.line 6)).align = .aligned ∧ (up.port (.line 6)).bits = [] ∧ (up.port (.line 6)).carriesWord = false ∧
      (up.port (.line 6)).wrong < 3 ∧ (up.port (.line 6)).mf = .aligned 14 0 (List.replicate 14 0x99) ∧
      (List.replicate 14 (0x99 : Byte)).length = 14 ∧ (up.port (.line 6)).ais = false ∧
      (up.port (.line 6)).available = true ∧ 2 < (octetsBits (List.replicate 32 (0x55 : Byte))).countP (fun b => !b) ∧
      (up.trunk 6).function ≠ .spanOnly ∧
      ((up.modTrunk 6 fun t => { t with function := .spanOnly }).trunk 6).function = .spanOnly) ∧
    trunkOf ca = 6 ∧ (up.info ca).mgmt = false ∧ channelOf ca = 1 ∧ channelOf 209 = 15 + 16 ∧ trunkOf cm ≠ 6 ∧
    (up.info cm).mgmt = true := by decide +kernel

/-- The last frame of a multiframe makes a busy circuit in ALIGNED idle, and an idle one with an idle roll due busy. -/
theorem test_wit_MultiframeChangesCall :
    let codes (r : Circuit) : Circuit := { r with
      fwd := { code := 0b1001, cand := none, count := 0 }, cuBack := { code := 0b0001, cand := some 0b1001, count := 2 } }
    let back (r : Circuit) : Circuit := { r with cuBack := { code := 0b1001, cand := some 0b0101, count := 2 } }
    let v : Move := { someMove .toSpan with result := some (resultOf 8), rollDue := some ⟨48, .idleRoll⟩ }
    let idles := withCa (flying .aligned .toSpan id) fun r => { codes r with busy := true }
    let port (s : State) := s.modPort (.line 6) fun r => { r with mf := .aligned 14 0 (List.replicate 14 0x55) }
    let calls := port (withCa (flying .aligned .toSpan fun _ => v) fun r => { back r with busy := false })
    let t := after (.portFrameReceived (.line 6) (List.replicate 32 0x99)) idles
    let u := after (.portFrameReceived (.line 6) (List.replicate 32 0x55)) calls
    (idles.circ ca).state.awaitsRoll = true ∧ (idles.circ ca).busy = true ∧ (t.circ ca).busy = false ∧
    (calls.circ ca).state = .aligned ∧ (calls.circ ca).busy = false ∧ (u.circ ca).busy = true ∧
    v.rollDue = some ⟨48, .idleRoll⟩ ∧ v.result = some (resultOf 8) ∧ (calls.info ca).rollOnCommand = false := by
  decide +kernel

theorem test_wit_MultiframeMovesSound (d : Option RollDue) (r : Option AlignResult) :
    MovesSound (flying .aligned .toSpan (fun v => { v with rollDue := d, result := r }) up) :=
  moves_flying 32 _ _ _ rfl rfl rfl rfl

theorem test_wit_DebounceAndCallState :
    (2 : Nat) ≤ 2 ∧ (9 : Code) = Debounce.reset.code ∧ (5 : Code) ≠ Debounce.reset.code ∧
    ({ code := 9, cand := some 5, count := 1 } : Debounce).cand = some 5 ∧ 1 + 1 < 3 ∧ 2 ≤ 1 + 1 ∧
    Debounce.reset.cand ≠ some 5 := by decide +kernel

theorem test_wit_LimitsReached :
    let s := { up with timing := { up.timing with qual := 8000 } }
    let r := { upAt 8000 with dev := State.reset.dev }
    let a := up.modTrunk 2 fun t => { t with insertion := .acquiring, settle := 8000 }
    (s.dev.powered = true ∧ s.timing.holdover = true ∧ 8000 ≤ s.timing.qual ∧
      r.dev.powered = true ∧ r.dev.devState = .starting ∧ 8000 ≤ r.timing.count.toNat ∧
      a.dev.powered = true ∧ (a.trunk 2).insertion = .acquiring ∧ 8000 ≤ (a.trunk 2).settle ∧
      strapMgmtTrunk a.dev.straps = some 2) ∧
    (let c := up.modSpan fun r => { r with intervalEnd := true, errCount := 39, degrade := true, usable := false, streak := 2 }
    let b := up.modSpan fun r => { r with intervalEnd := true, errCount := 40 }
    c.dev.powered = true ∧ c.span.intervalEnd = true ∧ c.span.errCount < c.params.degrade / 2 ∧
      c.span.alignedThroughout = true ∧ c.span.degrade = true ∧ 2 ≤ c.span.streak ∧ c.span.usable = false ∧
      (after .degradeIntervalEnd c).span.usable = true ∧ b.span.intervalEnd = true ∧
      ¬ (b.span.errCount < b.params.degrade / 2 ∧ b.span.alignedThroughout = true) ∧
      ¬ (b.span.degrade = true ∧ 2 ≤ b.span.streak)) ∧
    (∃ n, ((withCa up fun r => { r with restore := .due 80000 }).circ ca).restore = .due n) ∧
    ((withCa up fun r => { r with freeze := some ⟨9, 32⟩ }).circ ca).freeze = some { code := 9, endFrame := up.now } := by
  refine ⟨by decide +kernel, by decide +kernel, ⟨80000, by decide +kernel⟩, by decide +kernel⟩

theorem test_wit_SpanLosEvaluated :
    up.dev.powered = true ∧ up.span.usable = true ∧ up.span.present = true ∧ 1 ≤ up.params.marks.1 ∧
    (flying .rolled .toSpan id).move? 0 ≠ none ∧
    (∃ s : State, (s.circ ca).sel = .span ∧ (s.circ ca).moveSlot = none ∧ s.span.usable = true ∧
      ∀ m v, s.move? m = some v → v.circuit ≠ ca) := by
  refine ⟨?_, ?_, ?_, ?_, ?_, withCa up fun r => { r with state := .moved, sel := .span }, ?_, ?_, ?_,
    fun m v h => (no_move rfl m v h).elim⟩ <;> decide +kernel

/-- In every in-flight state, in both directions, the hypotheses of the fallback statement are met. -/
theorem test_wit_FallbackByStateAndDirection (st : MoveState) (hst : st.atRest = false) (d : Dir) :
    let s := flying st d id
    s.dev.powered = true ∧ s.span.usable = true ∧ s.move? 0 = some (someMove d) ∧ (someMove d).circuit = ca ∧
    (∀ m' v', s.move? m' = some v' → v'.circuit = ca → 0 = m') ∧ (s.circ ca).state.atRest = false := by
  refine ⟨?_, ?_, ?_, rfl, fun m v h _ => (only_move (v := someMove d) (by rfl) m v h).1.symm, ?_⟩
  all_goals cases d <;> cases st <;> first | (exfalso; revert hst; decide) | decide +kernel

/-- A body of a RUNNING twin at the other END. -/
def twin (pos : List Byte := List.replicate 8 0) : List Byte := frameBody 0 0x60 pos

theorem test_wit_SpanFrameReceived :
    (up.dev.powered = true ∧ (bodyFrame (twin) 0).length = 561 ∧ (bodyFrame (twin) 1).length = 561 ∧
      (0 :: (bodyFrame (twin) 0).drop 1).length = 561 ∧ up.span.los = false ∧ up.span.align = .aligned ∧
      up.span.bits = [] ∧ (bodyFrame (twin) 0).take 4 = [0x3C, 0xA5, 0x5A, 0xC3] ∧
      (0 :: (bodyFrame (twin) 0).drop 1).take 4 ≠ [0x3C, 0xA5, 0x5A, 0xC3] ∧ up.span.wrong < 3 ∧
      (up.modSpan fun r => { r with wrong := 3 }).span.wrong = 3) ∧
    spanErrored (bodyFrame (twin) 0) = false ∧ spanErrored (bodyFrame (twin) 1) = true := by
  refine ⟨by decide +kernel, ?_, ?_⟩ <;> rw [errored_iff _ _ (by decide +kernel)] <;> decide

/-- The number of an errored frame, valid or not, and slots in its section and out of it; the numbers and assemblies of the
clauses about cells. -/
theorem test_wit_SpanFramePieces :
    let numbered (n : Option Word16) := (up.modSpan fun r => { r with rxNumber := n })
    let holds (a : Option SpanAsm) (sync : Bool) (s : State) := s.modMgmt fun g => { g with spanAsm := a, spanSync := sync }
    let a : SpanAsm := { q := 0, next := 3, octets := List.replicate 24 0, bad := false }
    (spanErrored (bodyFrame (twin) 1) = true ∧ (numbered none).span.rxNumber = none ∧
      (numbered (some 15)).span.rxNumber = some 15) ∧
    ((0 : SlotId).val / 32 = ((15 : Word16) + 1).toNat % 16 ∧ (0 : SlotId).val / 32 ≠ ((0 : Word16) + 1).toNat % 16 ∧
      (511 : SlotId).val / 32 = ((0xFFFE : Word16) + 1).toNat % 16) ∧
    ((holds none false up).mgmt.spanSync = false ∧ (3 : Word16).toNat % 8 ≠ 0 ∧ (8 : Word16).toNat % 8 = 0 ∧
      (7 : Word16).toNat % 8 = 7 ∧ (holds (some a) true up).mgmt.spanAsm = some a ∧ a.q = (7 : Word16).toNat / 8 ∧
      a.q ≠ (8 : Word16).toNat / 8 ∧ up.mgmt.restart = .idle ∧ up.mgmt.spanAsm = none) := by
  refine ⟨⟨?_, rfl, rfl⟩, by decide +kernel⟩
  rw [errored_iff _ _ (by decide +kernel)]
  decide

/-- Eight pieces make a cell, a piece that is missing a bad one; before a number that is a multiple of 8 no piece is used; and
the loss of ALIGNED abandons a cell uncounted. -/
theorem test_span_cell :
    let take (l : List Nat) : State :=
      forEach l (fun i t => placePiece (BitVec.ofNat 16 i) false (List.replicate 8 (nat8 i)) t) up
    (take [6, 7, 8, 9, 10, 11, 12, 13, 14, 15]).mgmt.spanReady =
      [⟨[8, 9, 10, 11, 12, 13, 14, 15].flatMap fun i => List.replicate 8 (nat8 i), false⟩] ∧
    (take [8, 9, 11, 12, 13, 14, 15]).mgmt.spanReady.map SpanReady.bad = [true] ∧
    (take [8, 9, 16]).mgmt.spanDiscards = 1 ∧ (take [8, 9, 16]).mgmt.spanReady = [] ∧
    (after (.spanLos true) (take [8, 9])).mgmt.spanAsm = none ∧
    (after (.spanLos true) (take [8, 9])).mgmt.spanDiscards = 0 := by decide +kernel

/-- Octets read from their own bits. -/
theorem bits_of_octets (l : List Byte) : bitsOctets l.length (octetsBits l) = l := by
  induction l with
  | nil => rfl
  | cons b l ih =>
    have h8 : (octetBits b).length = 8 := rfl
    have hb : bitsOctet (octetBits b) = b := by revert b; decide +kernel
    show bitsOctet ((octetBits b ++ octetsBits l).take 8) :: bitsOctets l.length ((octetBits b ++ octetsBits l).drop 8) = _
    rw [List.take_left' h8, List.drop_left' h8, hb, ih]

/-- Three span frames in succession, two of them held, make the span ALIGNED; one makes it CONFIRM. -/
theorem test_wit_AlignmentEnteredSpan :
    let f := bodyFrame (twin) 0
    let word := octetsBits [0x3C, 0xA5, 0x5A, 0xC3]
    let s := up.modSpan fun r => { r with align := .confirm, bits := octetsBits f ++ octetsBits f, rxNumber := none }
    let l := s.span.bits ++ octetsBits f
    (s.dev.powered = true ∧ f.length = 561 ∧ s.span.los = false ∧ s.span.align ≠ .aligned ∧ spanErrored f = false) ∧
    (octetsBits f).length = 4488 ∧ l.length = 0 + 13464 ∧ (l.drop 0).take word.length = word ∧
    (l.drop (0 + 4488)).take word.length = word ∧ (l.drop (0 + 2 * 4488)).take word.length = word ∧
    bitsOctets 561 ((l.drop (0 + 8976)).take 4488) = f := by
  have hf : (bodyFrame (twin) 0).length = 561 := by decide +kernel
  have hb : (octetsBits (bodyFrame (twin) 0)).length = 4488 := by decide +kernel
  have hw : (octetsBits (bodyFrame (twin) 0)).take 32 = octetsBits [0x3C, 0xA5, 0x5A, 0xC3] := by decide +kernel
  have ho : bitsOctets 561 (octetsBits (bodyFrame (twin) 0)) = bodyFrame (twin) 0 := hf ▸ bits_of_octets _
  have he : spanErrored (bodyFrame (twin) 0) = false := by
    rw [errored_iff _ _ (by decide +kernel)]
    decide
  intro f word s l
  have hl : l = octetsBits f ++ (octetsBits f ++ octetsBits f) := List.append_assoc ..
  have hk : word.length = 32 := by decide
  have h1 : l.drop 4488 = octetsBits f ++ octetsBits f := by rw [hl]; exact List.drop_left' hb
  have h2 : l.drop 8976 = octetsBits f := by
    rw [show (8976 : Nat) = 4488 + 4488 from rfl, ← List.drop_drop, h1]; exact List.drop_left' hb
  refine ⟨⟨by decide +kernel, hf, by decide +kernel, by decide, he⟩, hb, ?_, ?_, ?_, ?_, ?_⟩
  · rw [hl]; simp only [List.length_append, show (octetsBits f).length = 4488 from hb]
  · rw [hk, List.drop_zero, hl, List.take_append_of_le_length (by rw [show (octetsBits f).length = 4488 from hb]; decide)]
    exact hw
  · rw [hk, Nat.zero_add, h1, List.take_append_of_le_length (by rw [show (octetsBits f).length = 4488 from hb]; decide)]
    exact hw
  · rw [hk, show 0 + 2 * 4488 = 8976 from rfl, h2]; exact hw
  · rw [Nat.zero_add, h2, List.take_of_length_le (Nat.le_of_eq hb)]; exact ho

/-- A frame of a RUNNING twin at the other END, one of a twin in HOLD without an END, and one of this device's own END. -/
theorem test_wit_SoundFrameJudgesPeer :
    let f := bodyFrame (twin) 0
    let h := bodyFrame (frameBody 1 0x80 (List.replicate 8 0)) 0
    let o := bodyFrame (frameBody 1 0x50 (List.replicate 8 0)) 0
    (spanErrored f = false ∧ spanErrored h = false ∧ spanErrored o = false) ∧
    peerStateOf (octetAt f 6) = .running ∧ peerStateOf (octetAt h 6) ≠ .running ∧
    strapEnd up.dev.straps ≠ none ∧ strapEnd up.dev.straps = peerEndOf (octetAt o 6) ∧
    strapEnd up.dev.straps ≠ peerEndOf (octetAt f 6) ∧ up.span.present = true ∧ up.span.conflict = false ∧
    strapEnd (State.resetWith { exampleStraps with site := 0 } []).dev.straps = none := by
  refine ⟨⟨?_, ?_, ?_⟩, by decide +kernel⟩ <;> rw [errored_iff _ _ (by decide +kernel)] <;> decide

theorem test_wit_SoundFrameHandsNoticesAndCodes :
    let n := note (.req .block)
    let f := bodyFrame (twin (encodeNotice (some n))) 0
    let full := { up with link := { up.link with inQ := List.replicate 64 n } }
    let down := up.modSpan fun r => { r with degrade := true, usable := false }
    spanErrored f = false ∧
    up.dev.powered = true ∧ f.length = 561 ∧ up.span.los = false ∧ up.span.align = .aligned ∧ up.span.bits = [] ∧
    f.take 4 = [0x3C, 0xA5, 0x5A, 0xC3] ∧ up.span.usable = true ∧ up.span.judgeUsable = true ∧
    peerStateOf (octetAt f 6) = .running ∧ peerEndOf (octetAt f 6) ≠ strapEnd up.dev.straps ∧
    up.link.inQ.length + 2 ≤ 64 ∧ 64 ≤ full.link.inQ.length ∧ decodeNotice ((f.drop 15).take 8) = some n ∧
    decodeNotice ((f.drop 23).take 8) = none ∧ down.span.usable = false ∧ down.span.degrade = true ∧
    up.map.directory.get 0 = some ca ∧
    (0 : SlotId).val / 32 = (word16 (octetAt f 4) (octetAt f 5)).toNat % 16 ∧
    (32 : SlotId).val / 32 ≠ (word16 (octetAt f 4) (octetAt f 5)).toNat % 16 := by
  refine ⟨?_, by decide +kernel⟩
  rw [errored_iff _ _ (by decide +kernel)]
  decide

/-- Octets that name a SWAP with both flags, a BRIDGED and a REFUSE; octets that name no kind; and a slot above 511. -/
theorem test_wit_SoundFrameHandsNoticesRead :
    let l : List Byte := [0x02, 0xC0, 0x01, 0xFF, 0, 9, 1, 1]
    let a : List Byte := [0x13, 0x40, 0, 0, 0, 9, 0, 0]
    let r : List Byte := [0x1F, 0x80, 0, 0, 0, 9, 5, 6]
    let none : List Byte := [0x1F, 0, 0, 0, 0, 9, 6, 1]
    (NamesKind l (.req .swap) ∧ NamesKind a (.ans .bridge) ∧ NamesKind r (.refuse .unmapped .abandon) ∧
      ∀ k, ¬ NamesKind none k) ∧
    (word16 (octetAt l 2) (octetAt l 3)).toNat ≤ 511 ∧ 511 < (word16 0x02 0x00).toNat ∧
    decodeNotice l = some { kind := .req .swap, dir := .toCopper, force := true, slot := 511, tag := 9 } ∧
    decodeNotice a = some { kind := .ans .bridge, dir := .toSpan, force := false, slot := 0, tag := 9 } ∧
    decodeNotice r = some { kind := .refuse .unmapped .abandon, dir := .toCopper, force := false, slot := 0, tag := 9 } ∧
    decodeNotice none = .none := by
  refine ⟨⟨by simp [NamesKind, requestOctets, octetAt], by simp [NamesKind, answerOctets, octetAt],
    by simp [NamesKind, requestOctets, reasonOctets, octetAt], fun k => ?_⟩, by decide +kernel⟩
  rcases k with q | q | ⟨r, d⟩
  · cases q <;> simp [NamesKind, requestOctets, octetAt]
  · cases q <;> simp [NamesKind, answerOctets, octetAt]
  · cases r <;> simp [NamesKind, reasonOctets, octetAt]

/-- The slots of the two circuits are each named once in the directory. -/
theorem test_wit_DirectoryNamesOnce : ∀ x, up.map.directory.get x = some ca → x = 0 := by
  intro x h
  have e : up.map.directory = ((Table.replicate 512 none).set 0 (some ca)).set 1 (some cb) := rfl
  rw [e, Table.get_set, Table.get_set] at h
  by_cases h1 : (1 : SlotId) = x
  · rw [if_pos h1] at h; exact absurd (Option.some.inj h) (by decide)
  · rw [if_neg h1] at h
    by_cases h0 : (0 : SlotId) = x
    · exact h0.symm
    · rw [if_neg h0] at h; simp at h

/-! Witnesses: notices -/

/-- The circuit under test moved to the span. -/
def moved (s : State := up) : State := withCa s fun r => { r with state := .moved, sel := .span, cuTx := false, spTx := true }

theorem test_wit_NoticeRowsTakeTheHead :
    let s := hears (note (.req .block)) up
    s.dev.powered = true ∧ s.link.inQ.head? = some (note (.req .block)) ∧ s.link.taken = false ∧
    Instr.swapReceived ∈ noticeRows ∧ Instr.swapReceived ≠ rowOf (note (.req .block)) ∧ up.link.inQ = [] := by
  decide +kernel

theorem test_wit_BlockReceived :
    let n := note (.req .block)
    let s := hears n up
    let busy := hears n (withCa up fun r => { r with busy := true })
    let blocked := hears n (withCa up fun r => { r with blocked := true })
    let v : Move := { someMove .toSpan with role := .responder, kind := .cold }
    let again := hears n (flying .blocking .toSpan fun _ => v)
    (NoticeAtHead s n ∧ n.kind = .req .block ∧ FindsAtRest s n ca ∧ (s.circ ca).state = n.dir.startRest ∧
      s.freeMove? = some 0 ∧ readyFor s ca n.dir = true ∧ (s.circ ca).busy = false ∧
      NoticeAtHead busy n ∧ FindsAtRest busy n ca ∧ busy.freeMove? = some 0 ∧ readyFor busy ca n.dir = true ∧
      (busy.circ ca).busy = true ∧ (busy.circ ca).state = n.dir.startRest ∧ NoticeAtHead blocked n ∧
      FindsAtRest blocked n ca ∧ readyFor blocked ca n.dir = false ∧ (blocked.circ ca).state = n.dir.startRest) ∧
    NoticeAtHead again n ∧ FindsInFlight again n 0 v ∧ (again.circ v.circuit).state = .blocking ∧ v.role = .responder ∧
    v.peerTag = some n.tag ∧ NoticeAtHead (hears n (moved)) n ∧ FindsAtRest (hears n (moved)) n ca ∧
    ((hears n (moved)).circ ca).state ≠ n.dir.startRest := by
  decide +kernel

theorem test_wit_SwapReceived :
    let n := note (.req .swap)
    let f := note (.req .swap) .toSpan true
    let s := hears n (flying .blocking .toSpan fun v => { v with role := .responder, kind := .cold })
    let b := hears n (flying .blocking .toSpan (fun v => { v with role := .responder, kind := .cold })
      (withCa up fun r => { r with busy := true }))
    let held := hears f (withCa up fun r => { r with blocked := true })
    (NoticeAtHead s n ∧ n.kind = .req .swap ∧ n.force = false ∧
    FindsInFlight s n 0 { someMove .toSpan with role := .responder, kind := .cold } ∧
    (s.circ ca).state = .blocking ∧ (someMove .toSpan).peerTag = some n.tag ∧ (s.circ ca).busy = false) ∧
    (NoticeAtHead b n ∧ FindsInFlight b n 0 { someMove .toSpan with role := .responder, kind := .cold } ∧
    (b.circ ca).busy = true ∧ NoticeAtHead (hears f up) f ∧ f.force = true ∧ FindsAtRest (hears f up) f ca ∧
    ((hears f up).circ ca).state = f.dir.startRest ∧ ((hears f up).trunk (trunkOf ca)).insertion = .inserted ∧
    ((hears f up).circ ca).blocked = false ∧ f.dir ≠ .toCopper ∧
    ((hears f up).circ ca).dir = none ∧ FindsAtRest (hears n up) n ca ∧ FindsAtRest (hears n (moved)) n ca ∧
    ((moved).circ ca).state = n.dir.targetRest ∧ NoticeAtHead (hears f (moved)) f) ∧
    (NoticeAtHead held f ∧ FindsAtRest held f ca ∧ (held.circ ca).state = f.dir.startRest ∧
      (held.circ ca).blocked ≠ false) :=
  ⟨by decide +kernel, by decide +kernel, by decide +kernel⟩

theorem test_wit_BridgeReceived :
    let n := note (.req .bridge)
    let s := hears n up
    let lost := hears n { up with line := up.line.set 6 PortRx.reset }
    let again := hears n (flying .rolled .toSpan id)
    let other := hears (note (.req .bridge) .toSpan false 8) (flying .bridged .toSpan id)
    let out := hears n (up.modTrunk 6 fun t => { t with insertion := .acquiring })
    (NoticeAtHead s n ∧ n.kind = .req .bridge ∧ FindsAtRest s n ca ∧ (s.circ ca).state = n.dir.startRest ∧
      s.freeMove? = some 0 ∧ readyFor s ca n.dir = true ∧ (s.circ ca).busy = false ∧
      ¬ (n.dir = .toSpan ∧ s.copperAvail (trunkOf ca) = false) ∧ lost.copperAvail (trunkOf ca) = false ∧
      readyFor lost ca n.dir = true ∧ readyFor out ca n.dir = false ∧ NoticeAtHead again n ∧
      FindsInFlight again n 0 (someMove .toSpan) ∧ (again.circ ca).state.hitless = true ∧
      (again.circ ca).state ≠ .bridging ∧ (someMove .toSpan).peerTag = some n.tag) ∧
    NoticeAtHead other (note (.req .bridge) .toSpan false 8) ∧
    FindsInFlight other (note (.req .bridge) .toSpan false 8) 0 (someMove .toSpan) ∧
    (someMove .toSpan).peerTag = some 9 ∧ (9 : Word16) ≠ 8 ∧ FindsAtRest (hears n (moved)) n ca ∧
    ((hears n (moved)).circ ca).state ≠ n.dir.startRest := by decide +kernel

theorem test_wit_RolledAndReleaseReceived :
    let n := note (.req .rolled)
    let l := note (.req .release)
    let v : Move := { someMove .toSpan with ownRolledNoted := true, made := some ⟨.hitless, some 0, 0⟩ }
    let s := hears n (flying .rolled .toSpan fun _ => v)
    let r := hears l (flying .rolled .toSpan fun _ => v)
    let b := hears l (flying .bridged .toSpan id)
    let z := { s with params := { s.params with soak := 0 } }
    let w := hears n (flying .swapping .toSpan id)
    (NoticeAtHead s n ∧ n.kind = .req .rolled ∧ FindsInFlight s n 0 v ∧ (s.circ ca).state.hitless = true ∧
    (s.circ ca).state = .rolled ∧ v.peerRolled = false ∧ v.ownRolledNoted = true ∧ s.params.soak ≠ 0 ∧
    z.params.soak = 0) ∧
    (FindsInFlight z n 0 v ∧ FindsAtRest (hears n (moved)) n ca ∧ NoticeAtHead (hears n (moved)) n ∧
    FindsAtRest (hears n up) n ca ∧ NoticeAtHead r l ∧ FindsInFlight r l 0 v ∧ v.made = some ⟨.hitless, some 0, 0⟩ ∧
    NoticeAtHead b l ∧ FindsInFlight b l 0 (someMove .toSpan) ∧ (b.circ ca).state ≠ .rolled ∧
    FindsAtRest (hears l (moved)) l ca ∧ FindsAtRest (hears l up) l ca ∧ NoticeAtHead w n) ∧
    (FindsInFlight w n 0 (someMove .toSpan) ∧ (w.circ ca).state = .swapping) :=
  ⟨by decide +kernel, by decide +kernel, by decide +kernel⟩

theorem test_wit_AbandonReceived :
    let n := note (.req .abandon)
    let o := note (.req .abandon) .toSpan false 8
    let x := note (.req .abandon) .toCopper
    let finds (s : State) (n : Notice) (v : Move) : Prop :=
      s.map.directory.get n.slot = some v.circuit ∧ (s.circ v.circuit).moveSlot = some 0 ∧ s.move? 0 = some v
    let s := hears n (flying .rolled .toSpan id)
    let t := hears o (flying .bridged .toSpan id)
    let a := hears n (flying .abandoning .toSpan fun v => { v with peerTag := none })
    let e := hears x (flying .swapping .toSpan id)
    (NoticeAtHead s n ∧ n.kind = .req .abandon ∧ (s.circ ca).state.atRest = false ∧
      (someMove .toSpan).peerTag = some n.tag ∧ ((withCa s fun r => { r with sel := .span }).circ ca).sel = n.dir.newPath ∧
      (s.circ ca).state = .rolled ∧ NoticeAtHead t o ∧ (9 : Word16) ≠ o.tag ∧ NoticeAtHead a n ∧
      (a.circ ca).state = .abandoning ∧ FindsAtRest (hears n up) n ca ∧ NoticeAtHead (hears n up) n ∧ NoticeAtHead e x ∧
      (someMove .toSpan).dir ≠ x.dir ∧ (e.circ ca).state.atRest = false ∧ x.kind = .req .abandon ∧
      ((after .abandonReceived e).circ ca).state = .home) ∧
    finds s n (someMove .toSpan) ∧ finds t o (someMove .toSpan) ∧ finds a n { someMove .toSpan with peerTag := none } ∧
    finds e x (someMove .toSpan) := by
  refine ⟨by decide +kernel, ⟨?_, ?_, ?_⟩, ⟨?_, ?_, ?_⟩, ⟨?_, ?_, ?_⟩, ⟨?_, ?_, ?_⟩⟩ <;> decide +kernel

/-- The circuit under test in flight with a pending request of kind `k`, and an answer `kind` to it at the head. -/
def answered (st : MoveState) (k : ReqKind) (kind : NoticeKind) (f : Move → Move := id) : State :=
  hears (note kind .toSpan false 7) (flying st .toSpan fun v => f { v with request := pendingRequest k })

/-- The move of `answered`. -/
def answeredMove (k : ReqKind) (f : Move → Move := id) : Move := f { someMove .toSpan with request := pendingRequest k }

/-- A move that has rolled at both ends. -/
def rolledOnce (v : Move) : Move := { v with made := some ⟨.hitless, some 0, 0⟩, peerRolled := true }

theorem test_wit_AnswersReceivedBlocked :
    let n := note (.ans .block) .toSpan false 7
    let s := answered .blocking .block (.ans .block)
    let b := withCa s fun r => { r with busy := true }
    (NoticeAtHead s n ∧ n.kind = .ans .block ∧ (s.circ ca).state = .blocking ∧ (s.circ ca).busy = false ∧
      NoticeAtHead b n ∧ (b.circ ca).busy = true) ∧
    Answers s n .block 0 (answeredMove .block) ∧ Answers b n .block 0 (answeredMove .block) :=
  ⟨by decide +kernel, answers_only rfl (by decide +kernel), answers_only rfl (by decide +kernel)⟩

theorem test_wit_AnswersReceivedEnding :
    let n (k : ReqKind) := note (.ans k) .toSpan false 7
    let s := answered .swapping .swap (.ans .swap)
    let r := answered .rolled .release (.ans .release) rolledOnce
    let a := answered .abandoning .abandon (.ans .abandon)
    (NoticeAtHead s (n .swap) ∧ NoticeAtHead r (n .release) ∧ NoticeAtHead a (n .abandon) ∧
      (answeredMove .release rolledOnce).made = some ⟨.hitless, some 0, 0⟩) ∧
    Answers s (n .swap) .swap 0 (answeredMove .swap) ∧
    Answers r (n .release) .release 0 (answeredMove .release rolledOnce) ∧
    Answers a (n .abandon) .abandon 0 (answeredMove .abandon) :=
  ⟨by decide +kernel, answers_only rfl (by decide +kernel), answers_only rfl (by decide +kernel),
    answers_only rfl (by decide +kernel)⟩

theorem test_wit_BridgedAndNotedReceived :
    let n (k : ReqKind) := note (.ans k) .toSpan false 7
    let s := answered .bridging .bridge (.ans .bridge)
    let b := withCa s fun r => { r with busy := true }
    let lost := { s with line := s.line.set 6 PortRx.reset }
    let r := answered .rolled .rolled (.ans .rolled) rolledOnce
    let q := answered .rolled .rolled (.ans .rolled)
    (NoticeAtHead s (n .bridge) ∧ (answeredMove .bridge).rollDue = none ∧ (answeredMove .bridge).dir = .toSpan ∧
      s.copperAvail (trunkOf ca) = true ∧ (s.circ ca).busy = false ∧ (b.circ ca).busy = true ∧
      lost.copperAvail (trunkOf ca) = false ∧ NoticeAtHead lost (n .bridge) ∧ NoticeAtHead r (n .rolled) ∧
      (answeredMove .rolled rolledOnce).peerRolled = true ∧ (answeredMove .rolled).peerRolled = false ∧
      r.params.soak ≠ 0 ∧ NoticeAtHead q (n .rolled)) ∧
    Answers s (n .bridge) .bridge 0 (answeredMove .bridge) ∧ Answers b (n .bridge) .bridge 0 (answeredMove .bridge) ∧
    Answers lost (n .bridge) .bridge 0 (answeredMove .bridge) ∧
    Answers r (n .rolled) .rolled 0 (answeredMove .rolled rolledOnce) ∧
    Answers { r with params := { r.params with soak := 0 } } (n .rolled) .rolled 0 (answeredMove .rolled rolledOnce) ∧
    Answers q (n .rolled) .rolled 0 (answeredMove .rolled) :=
  ⟨by decide +kernel, answers_only rfl (by decide +kernel), answers_only rfl (by decide +kernel),
    answers_only rfl (by decide +kernel), answers_only rfl (by decide +kernel), answers_only rfl (by decide +kernel),
    answers_only rfl (by decide +kernel)⟩

/-- For every kind of request a REFUSE of it can find its pending request. -/
theorem test_wit_RefuseReceived (k : ReqKind) :
    let n := note (.refuse .crossed k) .toSpan false 7
    let s := answered .rolled k (.refuse .crossed k)
    NoticeAtHead s n ∧ n.kind = .refuse .crossed k ∧ Answers s n k 0 (answeredMove k) ∧ (s.circ ca).state = .rolled :=
  ⟨by cases k <;> decide +kernel, rfl, answers_only rfl (by cases k <;> decide +kernel), by cases k <;> decide +kernel⟩

theorem test_wit_StaleUnmappedAndDirection :
    let n := note (.ans .block)
    let f := note (.refuse .busyCall .bridge)
    let u : Notice := { note (.req .bridge) with slot := 511 }
    let d := note (.req .bridge) .toCopper
    let s := hears d (flying .bridged .toSpan id)
    NoticeAtHead (hears n up) n ∧ matchSlot (hears n up) n .block = none ∧ NoticeAtHead (hears f up) f ∧
    matchSlot (hears f up) f .bridge = none ∧ NoticeAtHead (hears u up) u ∧
    (hears u up).map.directory.get u.slot = none ∧ NoticeAtHead s d ∧ d.kind ≠ .req .abandon ∧
    s.map.directory.get d.slot = some ca ∧ (s.circ ca).moveSlot = some 0 ∧ s.move? 0 = some (someMove .toSpan) ∧
    (someMove .toSpan).dir ≠ d.dir := by decide +kernel

/-- The small state at END B. -/
def atB (s : State) : State := { s with dev := { s.dev with straps := { exampleStraps with site := 2 } } }

/-- The circuit under test in flight with request `own` pending, a crossing request of kind `k` at the head. -/
def crossed (k own : ReqKind) (force : Bool := false) : State :=
  hears (note (.req k) .toSpan force) (flying
    (match own with | .block => .blocking | .swap => .swapping | _ => .bridging) .toSpan fun _ => answeredMove own)

/-- Every BLOCK, SWAP and BRIDGE crosses every own BLOCK, SWAP and BRIDGE, at END A and, ready, at END B. -/
theorem test_wit_Crossings (k own : ReqKind) (hk : k = .block ∨ k = .swap ∨ k = .bridge)
    (ho : own = .block ∨ own = .swap ∨ own = .bridge) (force : Bool) :
    let n := note (.req k) .toSpan force
    let s := crossed k own force
    let v := answeredMove own
    NoticeAtHead s n ∧ NoticeAtHead (atB s) n ∧ FindsInFlight s n 0 v ∧ FindsInFlight (atB s) n 0 v ∧
    n.kind = .req k ∧ Crosses s n k v ∧ Crosses (atB s) n k v ∧ v.request.map Request.kind = some own ∧
    strapEnd s.dev.straps = some .a ∧ strapEnd (atB s).dev.straps = some .b ∧ (s.circ v.circuit).busy = false ∧
    s.link.outQ.length + 1 < outboundSize ∧ (s.info v.circuit).slot = some n.slot ∧
    ((atB s).trunk 6).insertion = .inserted ∧ v.dir = .toSpan ∧ (atB s).copperAvail 6 = true := by
  unfold Crosses
  rcases hk with rfl | rfl | rfl <;> rcases ho with rfl | rfl | rfl <;> cases force <;> decide +kernel

/-- Crossings in which the circuit is busy, in which END B is not ready, and in which no request or a ROLLED, RELEASE or
ABANDON is pending. -/
theorem test_wit_CrossingsRest :
    let n := note (.req .block)
    let busy := withCa (crossed .block .block) fun r => { r with busy := true }
    let out := atB ((crossed .block .bridge).modTrunk 6 fun t => { t with insertion := .acquiring })
    let none_ := hears n (flying .bridged .toSpan id)
    let rolled := hears n (flying .rolled .toSpan fun v => { v with request := pendingRequest .rolled })
    let lost := atB { crossed .bridge .block with line := up.line.set 6 PortRx.reset }
    (busy.circ ca).busy = true ∧ NoticeAtHead busy n ∧ (out.trunk 6).insertion ≠ .inserted ∧ NoticeAtHead out n ∧
    NoticeAtHead none_ n ∧ FindsInFlight none_ n 0 (someMove .toSpan) ∧ (someMove .toSpan).request = none ∧
    NoticeAtHead rolled n ∧ FindsInFlight rolled n 0 { someMove .toSpan with request := pendingRequest .rolled } ∧
    (pendingRequest .rolled).map Request.kind = some .rolled ∧ lost.copperAvail 6 = false := by decide +kernel

theorem test_wit_CrossingsAnyRequest : Crosses (hears (note (.req .block)) (flying .bridged .toSpan id)) (note (.req .block))
    .block (someMove .toSpan) := by
  unfold Crosses
  decide +kernel

/-- A SWAP that crosses a pending BLOCK at END B, where the device is not ready, changes nothing; ready, with force, it is
swapped at once. -/
theorem test_crossing_force :
    ((after .forcedSwapReceived (atB (crossed .swap .block true))).circ ca).state = .moved ∧
    ((after .forcedSwapReceived (atB ((crossed .swap .block true).modTrunk 6 fun t =>
      { t with insertion := .acquiring }))).circ ca).state = .blocking := by decide +kernel

/-! Witnesses: timers, the roll, alignment and orders -/

/-- For every kind of request: with tries left and none queued, with its last sending queued, and with no tries left. -/
theorem test_wit_MoveTimersExpireRepeat (k : ReqKind) :
    let v (tries : Nat) : Move :=
      { someMove .toSpan with request := pendingRequest k tries (.due 400), made := some ⟨.hitless, none, 0⟩ }
    let s (tries : Nat) := flying .rolled .toSpan fun _ => v tries
    let q := offerNotice (note (.req k)) (some 0) (s 1)
    InFlightWith (s 1) 0 (v 1) 0 ∧ (v 1).request = pendingRequest k 1 (.due 400) ∧ (Timer.due 400).isDue = true ∧
    sendingQueued 0 (s 1) = false ∧ InFlightWith q 0 (v 1) 0 ∧ sendingQueued 0 q = true ∧ InFlightWith (s 0) 0 (v 0) 0 ∧
    (v 0).made = some ⟨.hitless, none, 0⟩ := by cases k <;> decide +kernel

theorem test_wit_MoveTimersExpire :
    let v : Move := { someMove .toSpan with
      progress := .due 1, quiet := .due 1, validity := .due 1, soak := .due 1,
      rollDue := some ⟨48, .hitless⟩, result := some (resultOf 0) }
    let s (st : MoveState) := flying st .toSpan fun _ => v
    let p := { s .rolled with map := { (s .rolled).map with loaded := (s .rolled).map.loaded.modify ca fun i => { i with pin := true } } }
    InFlightWith (s .blocking) 0 v 0 ∧ v.progress.isDue = true ∧ ((s .blocking).circ ca).state = .blocking ∧
    InFlightWith (s .rolled) 0 v 0 ∧ ((s .rolled).circ ca).state = .rolled ∧ v.quiet.isDue = true ∧
    InFlightWith (s .bridged) 0 v 0 ∧ ((s .bridged).circ ca).state.awaitsRoll = true ∧
    ((s .rollPending).circ ca).state.awaitsRoll = true ∧ InFlightWith (s .aligned) 0 v 0 ∧
    v.validity.isDue = true ∧ ((s .aligned).circ ca).state = .aligned ∧ v.soak.isDue = true ∧ v.request = none ∧
    ((s .rolled).info ca).pin = false ∧ InFlightWith p 0 v 0 ∧ (p.info ca).pin = true := by decide +kernel

/-- A roll of each kind in its frame and in another; and an idle roll in ROLL_PENDING at a quiet boundary, tested or not. -/
theorem test_wit_RollMade (k : RollKind) :
    let v (f : Frame) : Move := { someMove .toSpan with rollDue := some ⟨f, k⟩, result := some (resultOf (-255)) }
    let s (f : Frame) := flying .aligned .toSpan fun _ => v f
    let w (tested : Bool) : Move :=
      { someMove .toSpan with rollDue := some ⟨32, .idleRoll⟩, result := some (resultOf 32), tested := tested }
    let q (tested : Bool) := flying .rollPending .toSpan fun _ => w tested
    let old := (List.range (q false).params.window).map fun j =>
      histOctet (q false) ca .copper ((q false).now - 32 - (0 : Byte).setWidth 32 + BitVec.ofNat 32 j)
    InFlightWith (s 32) 0 (v 32) 0 ∧ (v 32).rollDue = some ⟨(s 32).now, k⟩ ∧ (s 32).info ca = up.info ca ∧
    ((s 32).circ ca).state ≠ .rollPending ∧ InFlightWith (s 33) 0 (v 33) 0 ∧ (33 : Frame) ≠ (s 33).now ∧
    InFlightWith (q false) 0 (w false) 0 ∧ (w false).rollDue = some ⟨(q false).now, .idleRoll⟩ ∧
    ((q false).circ ca).state = .rollPending ∧ (w false).tested = false ∧
    ((q false).circ ca).depth (w false).dir.oldPath = 0 ∧ (q false).params.window = 32 ∧
    old.eraseDups.length < (q false).params.distinct ∧
    ((after (.rollMade 0) (q false)).move? 0).bind Move.made = some ⟨.hitless, some 32, 32⟩ ∧
    InFlightWith (q true) 0 (w true) 0 ∧ (w true).tested = true ∧
    ((after (.rollMade 0) (q true)).move? 0).bind Move.made = some ⟨.idleRoll, none, 32⟩ := by
  cases k <;> decide +kernel

/-- The circuit under test waiting in the alignment queue. -/
def waitingFirst (fresh : Bool) : State :=
  let s := flying .bridged .toSpan id
  { s with align := { s.align with queue := [⟨ca, fresh⟩] } }

/-- The same with every correlator granted but the last. -/
def lastFree (freed : Bool) : State :=
  let s := waitingFirst false
  { s with align := { s.align with
    corrs := (Table.replicate 8 { rec? := none, justFreed := true }).set 7 { rec? := none, justFreed := freed } } }

theorem test_wit_CorrelatorGranted :
    let s := waitingFirst false
    s.dev.powered = true ∧ s.align.queue = ⟨ca, false⟩ :: [] ∧ (s.align.corrs.get 0).rec? = none ∧
    (s.align.corrs.get 0).justFreed = false ∧ (∀ j, j < (0 : CorrId) → (s.align.corrs.get j).justFreed = true) ∧
    (s.circ ca).dir = some .toSpan ∧ ((lastFree false).align.corrs.get 7).rec? = none ∧
    ((lastFree false).align.corrs.get 7).justFreed = false ∧
    (∀ j, j < (7 : CorrId) → ((lastFree false).align.corrs.get j).justFreed = true) ∧
    (∀ j, ((lastFree true).align.corrs.get j).justFreed = true) ∧ up.align.queue = [] ∧
    (waitingFirst true).align.queue = ⟨ca, true⟩ :: [] ∧ (QueueEntry.mk ca true).fresh = true := by decide +kernel

/-- A measurement whose first window of 16 ends in frame 1024. -/
def measuring (cand : Option Int) (streak : Nat) : Measure :=
  { circuit := ca, dir := .toSpan, oldDepth := 0, window := 16, distinct := 2, e0 := 1024, next := 1, cand := cand,
    noneStreak := streak, timeout := .counting 0 }

/-- The circuit under test measured on correlator 0, in frame `f`. -/
def measured (x : Measure) (f : Frame) (g : Move → Move := id) : State :=
  let s := flying .bridged .toSpan g (upAt f)
  { s with align := { s.align with corrs := s.align.corrs.set 0 { rec? := some x, justFreed := false } } }

/-- A history in which copper carries the low octet of the frame count and the span `span` of the row. -/
def withHistory (span : Nat → Byte) (s : State) : State :=
  { s with align := { s.align with history := Table.ofFn fun i =>
      { copper := Table.replicate 16 (Table.replicate 32 (nat8 i.val)), span := Table.replicate 512 (span i.val) } } }

/-- The span carries in rows 256 to 511 and 0 to 31 what copper carried 5 frames before. -/
def lateBy5 (i : Nat) : Byte := if 256 ≤ i ∨ i < 32 then nat8 (i + 507) else 0xAA

/-- The rows of n frames from frame `f` on. -/
def rowsFrom (f : Frame) (n : Nat) : List Nat := (List.range n).map fun i => (rowIndex (f + BitVec.ofNat 32 i)).val

/-- What a window reads of such a history. -/
theorem evaluate_history (span : Nat → Byte) (x : Measure) (s : State) (hc : x.circuit = ca) (hd : x.dir = .toSpan)
    (hs : (s.info ca).slot = some 0) :
    x.evaluate (withHistory span s) =
      if !(atOrAfterMark (markOf s ca .copper) s.now x.oldFirst && atOrAfterMark (markOf s ca .span) s.now x.newFirst) then
        .passed
      else if distinctOctets ((rowsFrom x.oldFirst x.window).map nat8) < x.distinct then .quiet
      else match matchingLags ((rowsFrom x.oldFirst x.window).map nat8)
          ((rowsFrom x.newFirst (x.window + 287)).map span) with
        | [] => .none
        | [l] => .unique l
        | _ => .multi := by
  have ho (f : Frame) (n : Nat) : histOctets (withHistory span s) ca .copper f n = (rowsFrom f n).map nat8 := by
    simp [histOctets, rowsFrom, histOctet, withHistory]
  have hn (f : Frame) (n : Nat) : histOctets (withHistory span s) ca .span f n = (rowsFrom f n).map span := by
    simp only [histOctets, rowsFrom, List.map_map]
    apply List.map_congr_left
    intro i _
    have hm : (withHistory span s).map = s.map := by simp [withHistory]
    have : ((withHistory span s).info ca).slot = some 0 := by
      unfold State.info at hs ⊢
      rw [hm]
      exact hs
    unfold histOctet
    rw [this]
    simp [withHistory]
  have hk (p : Path) : markOf (withHistory span s) ca p = markOf s ca p := by cases p <;> simp [markOf, withHistory]
  have hw : (withHistory span s).now = s.now := by simp [State.now, withHistory]
  unfold Measure.evaluate
  simp only [hc, hd, Dir.oldPath, Dir.newPath, ho, hn, hk, hw]
  all_goals
    generalize matchingLags _ _ = l
    rcases l with _ | ⟨a, _ | ⟨b, l⟩⟩ <;> rfl

/-- A window whose 16 octets the span repeats 5 frames later, and nowhere else in the range, is UNIQUE of lag 5. -/
theorem test_window_unique :
    (measuring (some 5) 0).evaluate (withHistory lateBy5 (measured (measuring (some 5) 0) 1056)) = .unique 5 := by
  rw [evaluate_history lateBy5 _ _ rfl rfl (by decide +kernel)]
  decide +kernel

/-- A window that the span carries nowhere is NONE. -/
theorem test_window_none (x : Measure) (hx : x = measuring none 7) :
    x.evaluate (withHistory (fun _ => 0xAA) (measured x 1056)) = .none := by
  subst hx
  rw [evaluate_history (fun _ => 0xAA) (measuring none 7) (measured (measuring none 7) 1056) rfl rfl (by decide +kernel)]
  decide +kernel

/-- A window before the mark of a path is passed over, and one that repeats every 256 frames is MULTI. -/
theorem test_window_passed_and_multi :
    let s := measured (measuring none 0) 1056
    (measuring none 0).evaluate { s with align := { s.align with spanMark := 1000 } } = .passed ∧
    (measuring none 0).evaluate (withHistory (fun i => nat8 (i + 507)) s) = .multi := by
  refine ⟨by decide +kernel, ?_⟩
  rw [evaluate_history (fun i => nat8 (i + 507)) (measuring none 0) (measured (measuring none 0) 1056) rfl rfl
    (by decide +kernel)]
  decide +kernel

theorem test_wit_WindowEvaluated :
    let x := measuring none 7
    let s := measured x 1056
    s.dev.powered = true ∧ (s.align.corrs.get 0).rec? = some x ∧ s.now = x.endFrame + 32 ∧
    (measured x 1055).now ≠ x.endFrame + 32 ∧ InFlightWith s 0 (someMove .toSpan) 0 ∧
    (s.circ ca).moveSlot = some 0 ∧ (s.circ ca).state = .bridged ∧
    (withHistory (fun _ => 0xAA) s).now = x.endFrame + 32 ∧ x.evaluate s = .quiet ∧
    x.after .quiet = some { x with next := 2 } ∧ x.after .none = none ∧
    (measuring (some 5) 0).after (.unique 5) = none ∧ (measuring none 0).after .multi ≠ none ∧
    (s.info ca).rollOnCommand = false ∧ (someMove .toSpan).rollDue = none := by decide +kernel

theorem test_wit_AlignmentTimeoutAndQuietTest :
    let x := { measuring none 0 with timeout := .due 160000 }
    let s := measured x 1056
    let v : Move := { someMove .toSpan with result := some (resultOf 32) }
    let q := flying .rollPending .toSpan fun _ => v
    let n := withHistory lateBy5 q
    let d : Move := { v with rollDue := some ⟨33, .rescue⟩ }
    let r := flying .rollPending .toSpan fun _ => d
    (InFlightWith s 0 (someMove .toSpan) 0 ∧ (s.align.corrs.get 0).rec? = some x ∧ x.timeout.isDue = true ∧
      (s.circ ca).moveSlot = some 0 ∧ InFlightWith q 0 v 0 ∧ (q.circ ca).state = .rollPending ∧ q.now.toNat % 16 = 0 ∧
      v.tested = false ∧ v.rollDue = none ∧ quietBoundary q v = true ∧ InFlightWith n 0 v 0) ∧
    r.dev.powered = true ∧ r.move? 0 = some d ∧ d.rollDue.map RollDue.kind = some .rescue ∧ s.move? 0 = some (someMove .toSpan) ∧
    (s.circ ca).state ≠ .rollPending ∧ (upAt 33).now.toNat % 16 ≠ 0 ∧
    (after (.quietTest 0) r).move? 0 = some d ∧ ((after (.quietTest 0) r).circ ca).state = .rollPending := by decide +kernel

/-- A slip finds circuits and moves in agreement, in every in-flight state, with any roll due. -/
theorem test_wit_SlipsReachMarksAndMoves (st : MoveState) (hst : st.atRest = false) (d : Option RollDue) :
    let v : Move := { someMove .toSpan with rollDue := d }
    let s := flying st .toSpan (fun _ => v) (upAt 1056)
    MovesSound s ∧ s.move? 0 = some v ∧ trunkOf v.circuit = 6 ∧ (s.circ v.circuit).state = st ∧ v.rollDue = d ∧
    (s.line.get 6).align = .aligned ∧ (s.line.get 6).store = [] ∧ s.span.align = .aligned ∧ s.span.store = [] ∧
    s.dev.powered = true ∧ s.mgmt.restart ≠ .due := by
  refine ⟨moves_flying 1056 st .toSpan _ hst rfl rfl rfl, rfl, (by decide : trunkOf ca = 6), ?_, rfl, ?_⟩
  · simp only [flying, State.circ, someMove, Table.get_modify_self]
  · simp only [flying]
    decide +kernel

/-- A deletion kept since the frame before, of a copper and of the span, is the mark of the frame that SITE_FRAME opens; a
slip takes the result of a circuit in ALIGNED, puts it behind those that wait in the alignment queue, and begins a measurement anew. -/
theorem test_slips :
    let s := { quiet with align := { quiet.align with copperDeleted := quiet.align.copperDeleted.set 6 true, spanDeleted := true } }
    let a := flying .aligned .toSpan fun v => { v with result := some (resultOf 3), rollDue := some ⟨48, .hitless⟩ }
    let m := measured (measuring (some 5) 3) 1056
    (after .siteFrame s).align.copperMark.get 6 = 33 ∧ (after .siteFrame s).align.spanMark = 33 ∧
    (after .siteFrame quiet).align.copperMark.get 6 = 0 ∧ (after .siteFrame quiet).align.spanMark = 0 ∧
    ((copperSlip 6 32 a).circ ca).state = .bridged ∧ ((copperSlip 6 32 a).move? 0).any (fun v => v.result.isNone) = true ∧
    (copperSlip 6 32 { a with align := { a.align with queue := [⟨cb, false⟩] } }).align.queue = [⟨cb, false⟩, ⟨ca, true⟩] ∧
    ((spanSlip 1056 m).align.corrs.get 0).rec? = some { measuring none 0 with e0 := 1057, window := 32, distinct := 4 } ∧
    (copperSlip 5 1056 m).align.corrs = m.align.corrs := by decide +kernel

/-- An order of one circuit. -/
def oneOrder (st : OrderState) (e : EntryState) (d : Dir := .toSpan) (timer : Timer := .counting 0) : Order :=
  { number := 3, trunk := 6, first := 1, last := 1, dir := d, deadline := some 1, state := st, closing := none,
    timer := timer, entries := [⟨ca, e⟩] }

/-- A device with one order, at a stage of its pass. -/
def ordered (o : Order) (stage : PassStage) (s : State := up) : State :=
  { s with orders := { list := [o], counter := 4, turn := some 3, stage := stage } }

theorem test_wit_OrderPromotionAndResolution :
    let p := ordered (oneOrder .pending .unstarted) .promotion
    let r := ordered (oneOrder .active .unstarted) .resolution
    let m := ordered (oneOrder .active .unstarted) .resolution (moved)
    let u := { r with map := State.reset.map }
    p.dev.powered = true ∧ p.orders.stage = .promotion ∧ OrdersSound p ∧ r.orders.stage = .resolution ∧
    r.orders.list = [oneOrder .active .unstarted] ∧ (oneOrder .active .unstarted).entries = [⟨ca, .unstarted⟩] ∧
    (r.circ ca).moveSlot = none ∧ (r.circ ca).blocked = false ∧ (r.circ ca).state = Dir.toSpan.startRest ∧
    (r.info ca).slot ≠ none ∧ (u.info ca).slot = none ∧ (u.circ ca).state = Dir.toSpan.startRest ∧
    (m.circ ca).state = Dir.toSpan.targetRest ∧ (m.circ ca).moveSlot = none := by decide +kernel

theorem test_wit_OrderGrantAndDeadline :
    let g := ordered (oneOrder .active .unstarted) .grants
    let h := ordered (oneOrder .active .unstarted) .grants (moved)
    let d := ordered (oneOrder .active .unstarted .toSpan (.due 8000)) .over
    let f := ordered (oneOrder .active .inFlight .toSpan (.due 8000)) .over
    let c : Order := { oneOrder .active .inFlight .toSpan (.due 8000) with closing := some .cancel }
    (g.dev.powered = true ∧ g.orders.stage = .grants ∧ g.orders.list = [oneOrder .active .unstarted] ∧
      g.orders.turn = some (oneOrder .active .unstarted).number ∧ beginCheck g ca .toSpan = none ∧
      g.freeMove? = some 0 ∧ g.slotsOfOrders < 56 ∧ beginCheck h ca .toSpan ≠ none ∧
      d.orders.list = [oneOrder .active .unstarted .toSpan (.due 8000)] ∧
      (oneOrder .active .unstarted .toSpan (.due 8000)).timer.isDue = true ∧
      (oneOrder .active .unstarted).settled = false ∧ (oneOrder .active .unstarted).countOf .inFlight = 0 ∧
      (oneOrder .active .inFlight).settled = false ∧ (oneOrder .active .inFlight).countOf .inFlight ≠ 0 ∧
      f.orders.list = [oneOrder .active .inFlight .toSpan (.due 8000)]) ∧
    (ordered c .over).orders.list = [c] ∧ c.timer.isDue = true ∧ c.closing ≠ none := by decide +kernel

/-- A second order, of the circuit beside. -/
def otherOrder (st : OrderState) (e : EntryState) (c : CircuitId := cb) : Order :=
  { oneOrder st e with number := 5, entries := [⟨c, e⟩] }

/-- A device with the two orders, the first's turn. -/
def ordered2 (a b : Order) (stage : PassStage) (s : State := up) : State :=
  { s with orders := { list := [a, b], counter := 6, turn := some 3, stage := stage } }

/-- Promotion with one order ACTIVE, one that overlaps it and one that does not; resolution of a circuit that is there
already, of one that lost its slot, and of one that is neither; grants with one admission left; an order that is closed
while a circuit of it is in flight. -/
theorem test_wit_AdmissionOverManyOrders :
    let act := oneOrder .active .unstarted
    let two := ordered2 act (otherOrder .pending .unstarted) .promotion
    let clash := ordered2 act (otherOrder .pending .unstarted ca) .promotion
    let res := ordered2 act (otherOrder .active .unstarted) .resolution (moved)
    let bare := ordered2 act (otherOrder .active .unstarted) .resolution { up with map := State.reset.map }
    let used (n : Nat) : Table 64 (Option Move) :=
      Table.ofFn fun i => if i.val < n then some { someMove .toSpan with circuit := 300, order := some 9 } else none
    let grants := { ordered2 act (otherOrder .active .unstarted) .grants with
      moves := { slots := used 55, tagCounter := 0 } }
    let closed := ordered2 (oneOrder .active .inFlight .toSpan (.due 8000)) (otherOrder .active .unstarted) .over
    (two.dev.powered = true ∧ two.orders.stage = .promotion ∧ OrdersSound two ∧ OrdersSound clash ∧
      (otherOrder .pending .unstarted).entries.any (fun x => act.entries.any fun y => x.circuit = y.circuit) = false ∧
      (otherOrder .pending .unstarted ca).entries.any (fun x => act.entries.any fun y => x.circuit = y.circuit) = true ∧
      two.orders.list = [act] ++ otherOrder .pending .unstarted :: [] ∧
      (two.orders.list.countP fun a => a.state = .active) < 4) ∧
    (OrdersSound res ∧ res.orders.stage = .resolution ∧ (res.orders.list.all fun o => o.entries.length = 1) = true ∧
      (res.circ ca).state = Dir.toSpan.targetRest ∧ (res.circ ca).moveSlot = none ∧ (res.circ ca).blocked = false ∧
      (res.circ cb).state = Dir.toSpan.startRest ∧ (res.info cb).slot ≠ none ∧ OrdersSound bare ∧
      (bare.circ cb).state = Dir.toSpan.startRest ∧ (bare.info cb).slot = none) ∧
    (grants.orders.stage = .grants ∧ grants.slotsOfOrders = 55 ∧ grants.freeMove? = some 55 ∧
      beginCheck grants ca .toSpan = none ∧ beginCheck grants cb .toSpan = none ∧ act.number ≠ 5) ∧
    (oneOrder .active .inFlight).countOf .inFlight ≠ 0 ∧ (oneOrder .active .inFlight).settled = false ∧
    closed.orders.turn = some 3 ∧ closed.dev.devState ≠ .hold ∧ EntryReady closed .slot := by decide +kernel

/-- The pass over two orders: the second is promoted, the turn goes from the first to it, and back when the first closes. -/
theorem test_pass_two_orders :
    let two := ordered2 (oneOrder .active .unstarted) (otherOrder .pending .unstarted) .promotion
    let clash := ordered2 (oneOrder .active .unstarted) (otherOrder .pending .unstarted ca) .promotion
    let closed := ordered2 (oneOrder .active .inFlight .toSpan (.due 8000)) (otherOrder .active .unstarted) .over
    (after .orderPromotion two).orders.list.map Order.state = [.active, .active] ∧
    (after .orderPromotion clash).orders.list.map Order.state = [.active, .pending] ∧
    (after (.deadlineExpiry 3) closed).orders.turn = some 5 := by decide +kernel

/-! Witnesses: management -/

theorem info_up (c : CircuitId) : up.info c =
    if cb = c then { Loaded.reset exampleStraps c with slot := some 1 }
    else if ca = c then { Loaded.reset exampleStraps c with slot := some 0 } else Loaded.reset exampleStraps c := by
  have e : up.map.loaded = ((Table.ofFn (Loaded.reset exampleStraps)).modify ca fun i => { i with slot := some 0 }).modify cb
      fun i => { i with slot := some 1 } := rfl
  unfold State.info
  rw [e, Table.get_modify, Table.get_modify, Table.get_ofFn]
  by_cases hb : cb = c
  · have : ca ≠ c := by rw [← hb]; decide
    simp [hb, this]
  · simp [hb]

theorem directory_up (x : SlotId) :
    up.map.directory.get x = if (1 : SlotId) = x then some cb else if (0 : SlotId) = x then some ca else none := by
  have e : up.map.directory = ((Table.replicate 512 none).set 0 (some ca)).set 1 (some cb) := rfl
  rw [e, Table.get_set, Table.get_set, Table.get_replicate]

/-- The map of the small state is sound. -/
theorem map_up : MapSound up := by
  have hst : up.dev.straps = exampleStraps := rfl
  refine ⟨fun sl c => ?_, fun c => ?_, fun c hc => ?_⟩
  · rw [info_up, directory_up]
    have hab : ca ≠ cb := by decide
    have hsl : ¬ ((1 : SlotId) = sl ∧ (0 : SlotId) = sl) := fun h => absurd (h.1.trans h.2.symm) (by decide)
    by_cases h1 : cb = c <;> by_cases h2 : ca = c <;> by_cases h3 : (1 : SlotId) = sl <;> by_cases h4 : (0 : SlotId) = sl <;>
      simp_all [Loaded.reset]
  · rw [info_up, hst]
    by_cases h1 : cb = c <;> by_cases h2 : ca = c <;> simp [h1, h2, Loaded.reset]
  · rw [info_up] at hc ⊢
    have hm : strapMgmtCircuit exampleStraps = some cm := by decide
    by_cases h1 : cb = c
    · subst h1; simp [Loaded.reset, hm, cm, cb] at hc
    · by_cases h2 : ca = c
      · subst h2
        rw [if_neg h1, if_pos rfl] at hc
        simp [Loaded.reset, hm, cm, ca] at hc
      · simp [h1, h2, Loaded.reset]

theorem test_wit_ReadRequestsAnswered :
    let s := ordered (oneOrder .done .moved) .over
    (∀ e, EntryReady s e) ∧ statusItems s 1 = some [deviceItem s] ∧ (0 : Byte).toNat < [deviceItem s].length ∧
    statusItems s 0 = none ∧ statusItems s 6 = none ∧ [deviceItem s].length ≤ (1 : Byte).toNat ∧
    trunkArg 15 = some 15 ∧ trunkArg 16 = none ∧ channelArg 1 = true ∧ channelArg 31 = true ∧ channelArg 0 = false ∧
    channelArg 16 = false ∧ channelArg 32 = false ∧ (31 : Byte).toNat < (32 : Byte).toNat ∧
    512 ≤ (512 : Word16).toNat ∧ (0x7F : Byte).msb = false ∧ (0x80 : Byte).msb = true ∧
    s.orders.list = [] ++ oneOrder .done .moved :: [] ∧ (oneOrder .done .moved).number = 3 ∧
    (∀ o ∈ s.orders.list, o.number ≠ 4) ∧ counterGroup s 1 ≠ none ∧ counterGroup s 2 ≠ none ∧ counterGroup s 3 ≠ none ∧
    3 < (4 : Byte).toNat ∧ 1 < (2 : Byte).toNat := by
  refine ⟨fun e => ?_, by decide +kernel⟩
  cases e <;> decide +kernel

/-- Reports of a device with a proxy and of one without, with a request and a result to report. -/
theorem test_wit_ReportsLaidOut :
    let p : Proxy := { stationTag := 5, proxyTag := 9, mode := .post, code := 1, timer := .due 24000 }
    let s := { up with mgmt := { up.mgmt with proxy := some p, causes := 0x810, enables := 0x010 } }
    let r : MoveResult := { kind := .hitless, lag := some (-255), replay := 255 }
    let c := withCa (flying .aligned .toSpan fun v => { v with result := some (resultOf 32), request := pendingRequest .rolled })
      fun x => { x with lastFault := some .sequence, lastResult := some r }
    s.mgmt.proxy = some p ∧ up.mgmt.proxy = none ∧ s.mgmt.causes &&& s.mgmt.enables ≠ 0 ∧
    up.mgmt.causes &&& up.mgmt.enables = 0 ∧ (c.circ ca).lastFault = some .sequence ∧ (c.circ ca).lastResult = some r ∧
    (up.circ ca).lastFault = none ∧ (up.circ ca).lastResult = none ∧ (c.circ ca).moveSlot = some 0 ∧
    (c.circ ca).state = .aligned ∧ (up.circ ca).moveSlot = none ∧ up.span.peerState = some .running ∧
    State.reset.span.peerState = none ∧ up.span.streak < 256 ∧ (measuring none 0).next < 256 ∧
    ((measured (measuring none 0) 1056).align.corrs.get 0).rec? = some (measuring none 0) ∧
    (up.align.corrs.get 0).rec? = none ∧ (waitingFirst false).align.queue[0]? = some ⟨ca, false⟩ ∧
    paramOf 20 = some .proxyTimeout ∧ (oneOrder .active .unstarted).timer.count / 8000 < 65536 ∧
    ((statusItems c 4).map List.length) = some 2 := by decide +kernel

/-- The record of a circuit in ALIGNED with the lag 3 confirmed, octet by octet. -/
theorem test_circuit_record :
    let l := circuitRecord (flying .aligned .toSpan fun v => { v with result := some (resultOf 3) }) ca
    l = [6, 1, 0, 0, 5, 0x10, 0xC0, 0x10, 0, 0, 0, 0, 0, 0, 0, 0, 0, 0, 3, 0, 3, 0, 0, 0] := by decide +kernel

/-- Each operand out of its range, and a cell whose command, form or form of reading names none. -/
theorem test_wit_OutOfRangeRefused :
    let cell (body : List Byte) : Cell := { kind := kindRequest, tag := 4, target := targetLocal, status := 0, body := body }
    let s (body : List Byte) : State := { up with mgmt := { up.mgmt with spanReady := [⟨encodeCell (cell body), false⟩] } }
    (s [codeCommand, 6, 1, 9]).mgmt.spanReady = ⟨encodeCell (cell [codeCommand, 6, 1, 9]), false⟩ :: [] ∧
    EntryReady up .slot ∧ (∀ body, EntryReady (s body) .span) ∧ 15 < (16 : Byte).toNat ∧
    31 < (32 : Byte).toNat ∧ 512 ≤ (512 : Word16).toNat ∧ (512 : Word16) ≠ 0xFFFF ∧ 2 < (3 : Byte).toNat ∧
    (2 : Byte).toNat = (trunkOf cm).val ∧ (31 : Byte).toNat = channelOf cm ∧ (up.info cm).mgmt = true ∧
    (16 : Byte).toNat < (17 : Byte).toNat ∧ 8 < (9 : Byte).toNat ∧ 4 < (5 : Byte).toNat := by
  refine ⟨rfl, by decide +kernel, fun body => ?_, by decide +kernel⟩
  exact (by decide +kernel : EntryReady up .span)

theorem test_wit_SetCircuitWritesRecord :
    MapSound up ∧ EntryReady up .slot ∧ EntryReady up .span ∧ circuitArg 6 1 = some ca ∧ circuitArg 2 31 = some cm ∧
    circuitArg 6 2 = some cb ∧ circuitArg 16 1 = none ∧ circuitArg 0 16 = none ∧ circuitArg 15 31 = some 479 ∧
    slotOperand 0xFFFF = some none ∧ slotOperand 511 = some (some 511) ∧ slotOperand 512 = none ∧ policyArg 2 = some .force ∧
    policyArg 3 = none ∧ boolArg 1 = some true ∧ (up.info cm).mgmt = true ∧ (up.info ca).mgmt = false ∧
    ((up.circ ca).state = .home ∧ (up.circ ca).moveSlot = none) ∧ up.map.directory.get 1 = some cb ∧
    up.map.directory.get 511 = none ∧ (up.info ca).slot = some 0 ∧
    ¬ (((flying .bridged .toSpan id).circ ca).state = .home) :=
  ⟨map_up, by decide +kernel⟩

theorem test_wit_FillBlockMapsTrunk :
    MapSound up ∧ (EntryReady up .span ∧ fillOperands 6 0 0 0 0 = some (6, 0, false, 0, .auto) ∧
      fillOperands 0 15 1 31 2 = some (0, 15, true, 31, .force) ∧ fillOperands 0 16 0 0 0 = none ∧
      fillOperands 0 0 0 32 0 = none ∧ 15 < (16 : Byte).toNat ∧ 31 < (32 : Byte).toNat ∧ (31 : Byte).toNat < 32 ∧
      fillOperands 2 15 0 0 1 = some (2, 15, false, 0, .atClear)) ∧
    trunkOf ca = 6 ∧ (up.info ca).mgmt = false ∧ (up.info ca).slot ≠ none ∧
    (trunkCircuits 0).all (fun c => !(up.info c).mgmt && (up.circ c).state = .home && (up.circ c).moveSlot.isNone &&
      (up.info c).slot.isNone && (up.map.directory.get (fillTarget 15 true 31 (channelOf c))).isNone) = true ∧
    up.map.directory.get (fillTarget 0 false 0 (channelOf 0)) ≠ none ∧
    (trunkCircuits 2).all (fun c => (up.info c).mgmt || (up.circ c).state = .home && (up.circ c).moveSlot.isNone &&
      (up.info c).slot.isNone && (up.map.directory.get (fillTarget 15 false 0 (channelOf c))).isNone) = true ∧
    trunkOf cm = 2 ∧ (up.info cm).mgmt = true ∧ (up.info cm).policy = .auto ∧
    ((after (.fillBlock .span 1 2 15 0 0 1) up).info cm).policy = .atClear ∧
    ((after (.fillBlock .span 1 2 15 0 0 1) up).info cm).slot = none ∧
    (fillTarget 15 true 31 1).val = 510 ∧ (fillTarget 0 false 31 1).val = 0 :=
  ⟨map_up, ⟨by decide +kernel, rfl, rfl, rfl, rfl, by decide, by decide, by decide, rfl⟩, by decide +kernel⟩

theorem test_wit_MoveAndReturnBegin :
    let forced := { up with map := { up.map with loaded := up.map.loaded.modify ca fun i => { i with policy := .force } } }
    let busy := withCa up fun r => { r with busy := true }
    EntryReady up .slot ∧ circuitArg 6 1 = some ca ∧ beginCheck up ca .toSpan = none ∧ up.freeMove? = some 0 ∧
    (up.info ca).slot = some 0 ∧ up.link.outQ.length < outboundSize ∧ (up.info ca).policy = .auto ∧
    (up.circ ca).busy = false ∧ beginCheck busy ca .toSpan = none ∧ (busy.circ ca).busy = true ∧
    beginCheck forced ca .toSpan = none ∧ (forced.info ca).policy = .force ∧
    beginCheck up ca .toCopper = some .wrongState ∧ beginCheck (moved) ca .toCopper = none ∧
    beginCheck up cm .toSpan = some .mgmtChannel ∧
    { up with moves := { up.moves with slots := Table.replicate 64 (some (someMove .toSpan)) } }.freeMove? = none ∧
    beginCheck { up with moves := { up.moves with slots := Table.replicate 64 (some (someMove .toSpan)) } } ca .toSpan =
      none := by decide +kernel

/-- Each check of R80 fails on some state on which those before it pass. -/
theorem test_wit_MoveAndReturnReasons :
    let hold := { up with dev := { up.dev with devState := .hold } }
    let bare := { up with map := { up.map with loaded := up.map.loaded.modify ca fun i => { i with slot := none } } }
    let out := up.modTrunk 6 fun t => { t with insertion := .acquiring }
    let lost := moved { up with line := up.line.set 6 PortRx.reset }
    let down := up.modSpan fun r => { r with usable := false }
    let clear := { withCa up (fun r => { r with busy := true }) with
      map := { up.map with loaded := up.map.loaded.modify ca fun i => { i with policy := .atClear } } }
    beginCheck hold ca .toSpan = some .held ∧ beginCheck up ca .toCopper = some .wrongState ∧
    beginCheck (withCa up fun r => { r with blocked := true }) ca .toSpan = some .wrongState ∧
    beginCheck bare ca .toSpan = some .unmapped ∧ beginCheck out ca .toSpan = some .trunkDown ∧
    beginCheck lost ca .toCopper = some .trunkDown ∧ beginCheck down ca .toSpan = some .spanDown ∧
    beginCheck clear ca .toSpan = some .busyCall := by decide +kernel

theorem test_wit_CircuitCommandsServed :
    let res := resultOf 8
    let v : Move := { someMove .toSpan with result := some res }
    let d : Move := { v with rollDue := some ⟨48, .idleRoll⟩ }
    let n : Move := { v with ownRolledNoted := true, peerRolled := true, soak := .expired 480000 }
    let q : Move := { n with request := pendingRequest .release }
    let roc (s : State) : State :=
      { s with map := { s.map with loaded := s.map.loaded.modify ca fun i => { i with rollOnCommand := true } } }
    let hold := { up with dev := { up.dev with devState := .hold } }
    (EntryReady up .slot ∧ circuitArg 6 1 = some ca ∧ (up.info ca).mgmt = false ∧ EntryReady hold .slot ∧
      hold.dev.devState = .hold ∧ up.dev.devState ≠ .hold ∧ (up.circ ca).moveSlot = none ∧
      (up.circ ca).state.atRest = true ∧ ((withCa up fun r => { r with blocked := true }).circ ca).blocked = true ∧
      (up.circ ca).blocked = false) ∧
    InFlightWith (flying .rolled .toSpan fun _ => n) 0 n 0 ∧ n.soak.isExpired = true ∧ n.request = none ∧
    InFlightWith (roc (flying .aligned .toSpan fun _ => v)) 0 v 0 ∧
    ((roc (flying .aligned .toSpan fun _ => v)).info ca).rollOnCommand = true ∧ v.rollDue = none ∧ v.result = some res ∧
    InFlightWith (roc (flying .aligned .toSpan fun _ => d)) 0 d 0 ∧ d.rollDue ≠ none ∧
    InFlightWith (flying .rolled .toSpan fun _ => q) 0 q 0 ∧ q.request.map Request.kind = some .release ∧
    (InFlightWith (flying .blocking .toSpan fun _ => v) 0 v 0 ∧ InFlightWith (flying .swapping .toSpan fun _ => v) 0 v 0 ∧
    InFlightWith (flying .bridging .toSpan fun _ => v) 0 v 0 ∧ InFlightWith (flying .abandoning .toSpan fun _ => v) 0 v 0 ∧
    v.peerRolled = false) := by
  refine ⟨?_, ?_, ?_, ?_, ?_, ?_, ?_, ?_, ?_, ?_, ?_, ?_, ?_⟩ <;> decide +kernel

theorem test_wit_TrunkRequestsServed :
    let spanSide := { up with circuits := up.circuits.map fun r => { r with state := .moved } }
    (∀ e, EntryReady up e) ∧ trunkArg 6 = some 6 ∧ strapMgmtTrunk up.dev.straps = some 2 ∧ (6 : TrunkId) ≠ 2 ∧
    trunkAtRest up 6 = true ∧ trunkAtRest (flying .bridged .toSpan id) 6 = false ∧ functionArg 1 = some .monitor ∧
    functionArg 2 = some .spanOnly ∧ functionArg 3 = none ∧ (up.trunk 6).insertion ≠ .bypassed ∧
    (up.trunk 5).insertion = .bypassed ∧ trunkAtRest spanSide 5 = true ∧
    (trunkCircuits 5).all (fun c => (spanSide.circ c).state = .moved) = true ∧ (32 : Byte).toNat % 32 = 0 ∧
    namesZero 16 0x0F 0 = true ∧ namesZero 31 0x99 0xDF = false ∧ (31 : Byte).toNat % 32 ≠ 0 ∧
    (up.trunk 5).function = .trunk ∧ (up.trunk 5).coming = none ∧
    ((up.modTrunk 5 fun t => { t with function := .monitor }).trunk 5).function ≠ .trunk ∧
    ((up.modTrunk 5 fun t => { t with coming := some .monitor }).trunk 5).coming ≠ none ∧
    (trunkCircuits 5).all (homeFree up) = true ∧ (trunkCircuits 5).all (homeFree spanSide) = false := by
  refine ⟨fun e => ?_, by decide +kernel⟩
  cases e <;> decide +kernel

/-- A function is kept until the next site frame, and then it is in force. -/
theorem test_function_from_next_frame :
    let t := after (.setTrunkFunction .slot 1 5 1) up
    (t.trunk 5).function = .trunk ∧ (t.trunk 5).coming = some .monitor ∧
    ((after .siteFrame t).trunk 5).function = .monitor ∧ ((after .siteFrame t).trunk 5).coming = none := by
  decide +kernel

theorem test_wit_SetParametersWrites :
    let l : List (Byte × Word16) := [(1, 6), (0x12, 60), (0x11, 20), (1, 15), (10, 24), (14, 254)]
    l = [(1, 6), (0x12, 60), (0x11, 20)] ++ (1, 15) :: [(10, 24), (14, 254)] ∧
    (1 ≤ l.length ∧ l.length ≤ 18) ∧ (∀ x ∈ l, 1 ≤ x.1.toNat ∧ x.1.toNat ≤ 20) ∧
    (¬ ∃ x ∈ l, (x.1 = 1 ∧ 15 < x.2.toNat) ∨ (x.1 = 0x13 ∧ 1 < x.2.toNat)) ∧
    EntryReady up .slot ∧ paramOf 0 = none ∧ paramOf 1 = some .refPort ∧ paramOf 20 = some .proxyTimeout ∧
    paramOf 21 = none ∧ paramOf 10 = some .window ∧ paramOf 14 = some .repeatMs ∧ paramOf 17 = some .onMark ∧
    paramOf 18 = some .offMark ∧ paramOf 19 = some .proxyMode ∧ (0 : Word16).toNat < 10 ∧ 250 < (254 : Word16).toNat ∧ 15 < (16 : Word16).toNat ∧ 1 < (2 : Word16).toNat ∧
    ¬ (1 ≤ ([] : List (Byte × Word16)).length) ∧ ¬ ((21 : Byte).toNat ≤ 20) :=
  ⟨rfl, by decide, by simp, by simp, by decide +kernel⟩

/-- Several entries in one step: the last one of a parameter counts, the off-mark follows the on-mark, values are rounded. -/
theorem test_set_parameters :
    let t := after (.setParameters .slot 1 [(1, 6), (0x12, 60), (0x11, 20), (1, 15), (10, 24), (14, 254)]) up
    t.timing.refPort = 15 ∧ t.params.onMark = 20 ∧ t.params.offMark = 19 ∧ t.params.window = 32 ∧
    t.params.repeatMs = 250 := by decide +kernel

/-- A posted order passes over the numbers that are in use. -/
theorem test_order_number_in_use :
    let s := { ordered (oneOrder .active .unstarted) .over with
      orders := { up.orders with list := [oneOrder .active .unstarted], counter := 3 } }
    (after (.postOrder .slot 1 6 1 1 0 0) s).orders.list.map Order.number = [3, 4] ∧
    (after (.postOrder .slot 1 6 1 1 0 0) s).orders.counter = 5 := by decide +kernel

theorem test_wit_OrderRequestsServed :
    let a := ordered (oneOrder .active .unstarted) .over
    let f := ordered (oneOrder .active .inFlight) .over
    let p := ordered (oneOrder .pending .unstarted) .over
    let d := ordered (oneOrder .done .moved) .over
    let full := { up with orders := { up.orders with
      list := (List.range 32).map fun i => { oneOrder .done .moved with number := nat8 i } } }
    EntryReady a .slot ∧ OrdersSound a ∧ OrdersSound f ∧ OrdersSound p ∧ OrdersSound d ∧ OrdersSound full ∧
    trunkArg 6 = some 6 ∧ dirArg 0 = some .toSpan ∧ dirArg 1 = some .toCopper ∧ channelArg 1 = true ∧
    channelArg 31 = true ∧ 1 ≤ channelOf ca ∧ channelOf ca ≤ 31 ∧ (up.info ca).mgmt = false ∧
    up.dev.devState ≠ .hold ∧ full.orders.list.length = 32 ∧ a.orders.list.length < 32 ∧
    (∀ x ∈ a.orders.list, x.number ≠ a.orders.counter) ∧ (oneOrder .active .unstarted) ∈ a.orders.list ∧
    (oneOrder .active .unstarted).settled = false ∧ (oneOrder .active .unstarted).countOf .inFlight = 0 ∧
    (oneOrder .active .inFlight).countOf .inFlight ≠ 0 ∧ (oneOrder .done .moved).state ≠ .active := by decide +kernel

/-- A rise of attention asked for on either entry, with no EVENT cell queued, with one queued, and with a full queue; no rise;
and a device in which a RESTART has been taken. -/
theorem test_wit_CausesEnablesAndRestart :
    let s := { up with mgmt := { up.mgmt with causes := 0x800 } }
    let queue (l : List OutCell) : State := { s with mgmt := { s.mgmt with slotQ := l } }
    let q := queue [{ cell := { idleCell with kind := kindEvent }, restart := false }]
    let full := queue (List.replicate 16 { cell := { idleCell with kind := kindResponse }, restart := false })
    let rises (e : Entry) (s : State) := (after (.setEnables e 1 0x8000) s).mgmt.attention = true
    let w := after (.restart .span 1) up
    (EntryReady s .slot ∧ EntryReady s .span ∧ EntryReady q .slot ∧ EntryReady q .span ∧ EntryReady full .span) ∧
    (s.mgmt.attention = false ∧ q.mgmt.attention = false ∧ full.mgmt.attention = false) ∧
    (rises .slot s ∧ rises .span s ∧ rises .slot q ∧ rises .span q ∧ rises .span full) ∧
    ((after (.setEnables .slot 1 0) s).mgmt.attention = false ∧ strapMgmtTrunk s.dev.straps ≠ none) ∧
    ((∀ x ∈ s.mgmt.slotQ, x.cell.kind ≠ kindEvent) ∧ s.mgmt.slotQ.length < 16) ∧
    ((∀ x ∈ full.mgmt.slotQ, x.cell.kind ≠ kindEvent) ∧ 16 ≤ full.mgmt.slotQ.length) ∧
    (∃ x ∈ q.mgmt.slotQ, x.cell.kind = kindEvent) ∧
    w.dev.powered = true ∧ w.mgmt.restart ≠ .idle ∧
    requestBody (.move .slot 4 6 1) (fun _ => 0) = some (.slot, 4, [0x05, 0x06, 0x01, 0x01]) := by decide +kernel

/-- A rise of attention that a request on the slot entry brings about: the EVENT cell, then the response. -/
theorem test_event_ahead_of_response :
    let s := { up with mgmt := { up.mgmt with causes := 0x800 } }
    (after (.setEnables .slot 1 0x8000) s).mgmt.slotQ.map (fun x => x.cell.kind) = [kindEvent, kindResponse] := by
  decide +kernel

theorem test_wit_ProxyForwardsAndCompletes :
    let p : Proxy := { stationTag := 5, proxyTag := 9, mode := .post, code := 1, timer := .due 24000 }
    let s := { up with mgmt := { up.mgmt with proxy := some p } }
    let down := up.modSpan fun r => { r with usable := false }
    let full := { up with mgmt := { up.mgmt with spanQ := List.replicate 16 { cell := idleCell, restart := false } } }
    up.dev.powered = true ∧ up.mgmt.restart = .idle ∧ up.slotEntryOpen = true ∧ up.mgmt.slotQ.length < 16 ∧
    (serviceOf [1, 1, 0]).isSome = true ∧ [(1 : Byte), 1, 0].length ≤ bodySize ∧ s.mgmt.proxy ≠ none ∧
    up.mgmt.proxy = none ∧ up.span.usable = true ∧ down.span.usable = false ∧ full.mgmt.spanQ.length = 16 ∧
    up.mgmt.spanQ.length < 16 ∧ s.mgmt.proxy = some p ∧ p.timer.isDue = true ∧ (9 : Byte) = p.proxyTag ∧
    (10 : Byte) ≠ p.proxyTag ∧ ({ p with timer := .counting 3 } : Proxy).timer.isDue = false := by decide +kernel

/-- 60 octets between the start word and their CRC are a good cell. -/
theorem good_cell (m : List Byte) (h : m.length = 60) : GoodCell ([0xE1, 0x4B] ++ m ++ be16 (crc16 m)) := by
  have e1 : (([0xE1, 0x4B] ++ m ++ be16 (crc16 m)).drop 2).take 60 = m := by simp [← h]
  have e2 : octetAt ([0xE1, 0x4B] ++ m ++ be16 (crc16 m)) 62 = (crc16 m).extractLsb' 8 8 := by
    simp [octetAt, be16, h]
  have e3 : octetAt ([0xE1, 0x4B] ++ m ++ be16 (crc16 m)) 63 = (crc16 m).extractLsb' 0 8 := by
    simp [octetAt, be16, h]
  refine ⟨by simp [be16, h], rfl, rfl, ?_⟩
  rw [e1, e2, e3]
  generalize crc16 m = x
  unfold word16
  apply BitVec.eq_of_getLsbD_eq
  intro i hi
  simp only [BitVec.getLsbD_append, BitVec.getLsbD_extractLsb']
  by_cases h8 : i < 8
  · simp [h8]
  · have : i - 8 < 8 := by omega
    have e : 8 + (i - 8) = i := by omega
    simp [h8, this, e]

/-- A cell with tag 4 of a kind, target and body. -/
def cellOf (kind target : Byte) (body : List Byte) : Cell :=
  { kind := kind, tag := 4, target := target, status := 0, body := body }

theorem test_wit_CellsSentAndTaken :
    let l := encodeCell (cellOf 0x01 0x00 [0x01, 1, 0])
    let bad : List Byte := List.replicate 64 0
    let s := { up with mgmt := { up.mgmt with slotRx := { locked := true, bad := 1, buf := l } } }
    let z := { up with mgmt := { up.mgmt with
      slotTx := some { octets := encodeCell idleCell, sent := 64, restart := false }
      spanReady := [⟨l, false⟩, ⟨bad, true⟩] } }
    s.mgmt.slotRx.buf = l ∧ z.mgmt.spanReady = ⟨l, false⟩ :: [⟨bad, true⟩] ∧
    (up.dev.powered = true ∧ up.slotEntryOpen = true ∧ up.mgmt.slotTx = none ∧ up.mgmt.slotQ = [] ∧
      (SlotTx.mk (encodeCell idleCell) 64 false).sent = 64 ∧ up.mgmt.restart = .idle ∧ l.length = 64 ∧ bad.length = 64 ∧
      ¬ GoodCell bad ∧ s.mgmt.slotRx.locked = true ∧ up.mgmt.slotRx.locked = false ∧ s.mgmt.slotRx.bad = 1) ∧
    ∀ kind target body, GoodCell (encodeCell (cellOf kind target body)) :=
  ⟨rfl, rfl, by decide +kernel, fun _ _ body => good_cell _ (by simp [bodySize])⟩

/-- Good cells of each kind and target, with bodies that are a row, name none, or are longer than a body may be; and a proxy
that waits. -/
theorem test_wit_CellsSentAndTakenKinds :
    let l (kind target : Byte) (body : List Byte) := encodeCell (cellOf kind target body)
    let body (l : List Byte) := (l.drop 7).take (octetAt l 6).toNat
    let waits := { up with mgmt := { up.mgmt with proxy := some ⟨3, 9, .wait, 1, .counting 0⟩ } }
    ((l 1 0 [5, 6, 1, 1]).length = 64 ∧ octetAt (l 1 0 [5, 6, 1, 1]) 2 = 1 ∧ octetAt (l 1 0 [5, 6, 1, 1]) 4 = 0 ∧
      (octetAt (l 1 0 [5, 6, 1, 1]) 6).toNat = 4 ∧ (Instr.move .slot 4 6 1).wellFormed = true ∧
      requestBody (.move .slot 4 6 1) (fun _ => 0) = some (.slot, octetAt (l 1 0 [5, 6, 1, 1]) 3, body (l 1 0 [5, 6, 1, 1])) ∧
      octetAt (l 1 1 [1, 5, 0]) 4 = 1 ∧ (octetAt (l 1 1 [1, 5, 0]) 6).toNat = 3 ∧ 1 < (octetAt (l 1 2 []) 4).toNat ∧
      (octetAt (l 1 0 (List.replicate 56 0)) 6).toNat = 56 ∧ octetAt (l 0 0 []) 2 = 0 ∧ octetAt (l 2 0 [1]) 2 = 2 ∧
      3 ≤ (octetAt (l 3 0 [0, 0, 1]) 2).toNat ∧ 3 ≤ (octetAt (l 0xFF 0 []) 2).toNat) ∧
    (waits.mgmt.queueOf .slot).length < 16 ∧ waits.mgmt.proxy = some ⟨3, 9, .wait, 1, .counting 0⟩ ∧ up.mgmt.proxy = none ∧
    ¬ RequestShape [] ∧ ¬ RequestShape [0x09] ∧ ¬ RequestShape [0x12, 0] ∧ RequestShape [0x0D, 0, 0] := by
  refine ⟨by decide +kernel, by decide, rfl, rfl, by simp [RequestShape], ?_, by simp [RequestShape, requestLengths, octetAt],
    by simp [RequestShape, requestLengths, octetAt]⟩
  rintro ⟨_, m | ⟨_, n, low, _, e⟩⟩
  · exact absurd m (by decide)
  · change 1 = 1 + 3 * n at e
    omega

/-! Witnesses: what every step keeps -/

theorem test_wit_StepsKeepTheirFrame :
    (∃ t, exec .siteTimingLock up = .next t) ∧ keepsSurroundings (.move .slot 0 0 0) = true ∧ keepsMap .siteFrame = false ∧
    keepsMap (.move .slot 0 0 0) = true ∧ writesHistory (.spanLos true) = false := ⟨⟨_, rfl⟩, rfl, rfl, rfl, rfl⟩

theorem test_wit_ReceiveSoundKept : PortsSound up ∧ SpanSound up ∧ ∃ t, step up = .next t := by
  have good : goodPort.sound := by decide +kernel
  have fresh : PortRx.reset.sound := by decide +kernel
  have hs : up.sw = (Table.replicate 16 PortRx.reset).set 6 goodPort := rfl
  have hl : up.line = (Table.replicate 16 PortRx.reset).set 6 goodPort := rfl
  refine ⟨fun p => ?_, by decide +kernel, _, rfl⟩
  cases p with
  | sw k =>
    show (up.sw.get k).sound
    rw [hs, Table.get_set, Table.get_replicate]
    split
    · exact good
    · exact fresh
  | line k =>
    show (up.line.get k).sound
    rw [hl, Table.get_set, Table.get_replicate]
    split
    · exact good
    · exact fresh

theorem test_wit_MapTrunksAndParametersKept : MapSound up ∧ TrunksSound up ∧ ParamsSound up :=
  ⟨map_up, ⟨by decide +kernel, by decide +kernel⟩, by decide +kernel⟩

theorem test_wit_QueuesAndOrdersKept : QueuesSound up ∧ OrdersSound up := by decide +kernel

theorem test_wit_MovesKept : MovesSound up := by
  have hm : ∀ m, up.move? m = none := fun m => by
    have e : up.moves.slots = Table.replicate 64 none := rfl
    unfold State.move?; rw [e, Table.get_replicate]
  have hc : up.circuits = ((Table.ofFn fun c => Circuit.reset (strapMgmtCircuit exampleStraps = some c)).modify ca
      fun r => { r with conditioned := false }).modify cb fun r => { r with conditioned := false } := rfl
  have hr : ∀ c, (up.circ c).state = .home ∧ (up.circ c).moveSlot = none ∧ (up.circ c).dir = none ∧
      (up.circ c).order = none := fun c => by
    unfold State.circ
    rw [hc, Table.get_modify, Table.get_modify, Table.get_ofFn]
    by_cases h1 : cb = c <;> by_cases h2 : ca = c <;> simp [h1, h2, Circuit.reset]
  refine ⟨fun c m => ?_, fun c => ?_, fun m v h => ?_, fun c _ => ⟨(hr c).2.2.1, (hr c).2.2.2⟩⟩
  · simp [hm, hr]
  · simp [hr]; decide
  · rw [hm] at h; exact absurd h (by simp)

/-! One effect on small states -/

/-- MOVE of an idle circuit blocks it, and BLOCK is queued with slot 0 and tag 0. -/
theorem test_move_cold :
    ((after (.move .slot 1 6 1) up).circ ca).state = .blocking ∧
    (after (.move .slot 1 6 1) up).link.outQ.map OutNotice.notice = [note (.req .block) .toSpan false 0] := by
  decide +kernel

/-- A BLOCKED answer swaps the circuit to the span, and SWAPPED completes the move. -/
theorem test_swap_completes :
    ((after .blockedReceived (answered .blocking .block (.ans .block))).circ ca).sel = .span ∧
    ((after .swappedReceived (answered .swapping .swap (.ans .swap))).circ ca).state = .moved := by decide +kernel

/-- A request's response is the RESPONSE cell of its tag, DONE. -/
theorem test_status_response :
    (after (.status .span 7 5 0) up).mgmt.spanQ.map OutCell.cell =
      [{ kind := 2, tag := 7, target := 0, status := 1, body := [1, 5, 0xFF, 1, 0, 0, 0, 0, 0, 0] }] := by decide +kernel

/-- The loss of the span sends a circuit in BRIDGED home with SPAN_LOST. -/
theorem test_fallback :
    ((after (.spanLos true) (flying .bridged .toSpan id)).circ ca).state = .home ∧
    ((after (.spanLos true) (flying .bridged .toSpan id)).circ ca).lastFault = some .spanLost := by decide +kernel

/-- SITE_FRAME advances the count, and the frame sent on L6 begins with the alignment octet in an even frame. -/
theorem test_site_frame : (after .siteFrame up).timing.count = 33 := by decide +kernel

end Sys2Proof.Tests
end

/-! SUPPORT. Loading the circuit map (03, 3.5 and 3.6): circuits by trunk and channel, a request on an entry that is ready,
the write of one span slot, and the fill of a trunk. -/
namespace Sys2Proof.Machine.MapLoading

/-! Circuits by trunk and channel (R43) -/

theorem circuitAt_eq_some {k : TrunkId} {p : Nat} {c : CircuitId} :
    circuitAt k p = some c ↔ trunkOf c = k ∧ channelOf c = p := by
  have hk := k.isLt
  have hc := c.isLt
  unfold circuitAt trunkOf channelOf
  split
  · simp only [Option.some.injEq, Fin.ext_iff]
    split <;> omega
  · split
    · simp only [Option.some.injEq, Fin.ext_iff]
      split <;> omega
    · simp only [reduceCtorEq, false_iff]
      split <;> omega

theorem circuitAt_trunkOf_channelOf (c : CircuitId) : circuitAt (trunkOf c) (channelOf c) = some c :=
  circuitAt_eq_some.mpr ⟨rfl, rfl⟩

/-- A circuit is known by its trunk and channel. -/
theorem eq_of_trunkOf_of_channelOf {c d : CircuitId} (hk : trunkOf c = trunkOf d) (hp : channelOf c = channelOf d) :
    c = d := by
  have h := circuitAt_trunkOf_channelOf c
  rw [hk, hp, circuitAt_trunkOf_channelOf] at h
  exact (Option.some.inj h).symm

theorem channelOf_lt (c : CircuitId) : channelOf c < 32 := by
  unfold channelOf
  split <;> omega

theorem mem_trunkCircuits {k : TrunkId} {c : CircuitId} : c ∈ trunkCircuits k ↔ trunkOf c = k := by
  simp only [trunkCircuits, List.mem_filterMap, List.mem_range, circuitAt_eq_some]
  constructor
  · rintro ⟨_, _, hk, _⟩
    exact hk
  · intro hk
    exact ⟨channelOf c, channelOf_lt c, hk, rfl⟩

theorem nodup_trunkCircuits (k : TrunkId) : (trunkCircuits k).Nodup := by
  have hne (p q : Nat) (h : p ≠ q) (c : CircuitId) (hp : circuitAt k p = some c) (d : CircuitId)
      (hq : circuitAt k q = some d) : c ≠ d := fun hcd => h <| by
    rw [← (circuitAt_eq_some.mp hp).2, ← (circuitAt_eq_some.mp hq).2, hcd]
  exact List.Pairwise.filterMap (circuitAt k) hne List.nodup_range

/-! A request on an entry that is ready (R168, R171, R175) -/

section Requests

variable (s : State) (e : Entry) (tag : Byte) (r : Reply)

@[simp] theorem map_answered : (s.answered e tag r).map = s.map := by cases e <;> rfl
@[simp] theorem moves_answered : (s.answered e tag r).moves = s.moves := by cases e <;> rfl
@[simp] theorem surroundings_answered : (s.answered e tag r).surroundings = s.surroundings := by cases e <;> rfl
@[simp] theorem circ_answered (c : CircuitId) : (s.answered e tag r).circ c = s.circ c := by cases e <;> rfl
@[simp] theorem info_answered (c : CircuitId) : (s.answered e tag r).info c = s.info c := by cases e <;> rfl

/-- The record reported of a circuit does not depend on what the agent has queued. -/
@[simp] theorem circuitRecord_answered (c : CircuitId) : circuitRecord (s.answered e tag r) c = circuitRecord s c := by
  cases e <;> rfl

theorem answered_isAnswered : Answered (s.answered e tag r) e tag r := by
  cases e <;> simp [Answered, State.answered, State.queued, Mgmt.queueOf]

/-- A response offered to a queue with room joins its tail. -/
theorem respond_room (h : (s.mgmt.queueOf e).length < cellQueueSize) :
    respond e tag targetLocal r s = s.answered e tag r := by
  cases e with
  | slot => exact offerSlotCell_room s _ h
  | span => exact offerSpanCell_room s _ h

variable {s e}

/-- A ready entry takes the request, and its service is neither refused with BUSY nor left unserved. -/
theorem takeRequest_ready (code : Byte) (f : Service) (h : EntryReady s e) :
    takeRequest e tag code f s = respond e tag targetLocal (f s).2 (f s).1 := by
  obtain ⟨_, hidle, hslot, _⟩ := h
  cases e with
  | span => simp [takeRequest, serveLocal, entryTakes, hidle]
  | slot =>
    obtain ⟨hopen, hfree⟩ := hslot rfl
    simp [takeRequest, serveLocal, entryTakes, hidle, hopen, hfree]

/-- On a ready entry a request whose service leaves the agent alone is served, and its response queued. -/
theorem request_answered (code : Byte) (f : Service) (h : EntryReady s e) (hf : (f s).1.mgmt = s.mgmt) :
    whenPowered s (takeRequest e tag code f) = .next ((f s).1.answered e tag (f s).2) := by
  obtain ⟨hpower, _, _, hroom⟩ := id h
  have hroom' : ((f s).1.mgmt.queueOf e).length < cellQueueSize := by rw [hf]; omega
  rw [whenPowered, if_pos hpower, takeRequest_ready tag code f h, respond_room _ _ _ _ hroom']

theorem exec_setCircuit_ready (h : EntryReady s e) (trunk channel : Byte) (slot : Word16) (policy roc pin : Byte) :
    exec (.setCircuit e tag trunk channel slot policy roc pin) s =
      .next ((serveSetCircuit trunk channel slot policy roc pin s).1.answered e tag
        (serveSetCircuit trunk channel slot policy roc pin s).2) :=
  request_answered tag codeSetCircuit _ h (by simp)

theorem exec_fillBlock_ready (h : EntryReady s e) (trunk block ordering key policy : Byte) :
    exec (.fillBlock e tag trunk block ordering key policy) s =
      .next ((serveFillBlock trunk block ordering key policy s).1.answered e tag
        (serveFillBlock trunk block ordering key policy s).2) :=
  request_answered tag codeFillBlock _ h (by simp)

end Requests

/-! The write of one span slot (R46, R47) -/

section Slots

variable (s : State) (c : CircuitId)

theorem circ_modCirc (f : Circuit → Circuit) (c' : CircuitId) :
    (s.modCirc c f).circ c' = if c = c' then f (s.circ c') else s.circ c' := Table.get_modify _ _ _ _

theorem info_modInfo (f : Loaded → Loaded) (c' : CircuitId) :
    (s.modInfo c f).info c' = if c = c' then f (s.info c') else s.info c' := Table.get_modify _ _ _ _

@[simp] theorem circ_modInfo (f : Loaded → Loaded) (c' : CircuitId) : (s.modInfo c f).circ c' = s.circ c' := rfl

theorem modify_modify {n : Nat} {α : Type} (t : Table n α) (i : Fin n) (f g : α → α) :
    (t.modify i f).modify i g = t.modify i fun a => g (f a) := by
  apply Table.ext_get
  intro j
  simp only [Table.get_modify]
  split <;> rfl

/-- A record whose span backward code starts anew, with a call state judged after it (R47, R59). -/
def spanRestarted (busy : Bool) (r : Circuit) : Circuit :=
  { r with spBack := { code := 0b1001, cand := none, count := 0 }, spLast := none, busy := busy }

/-- A circuit that holds no move slot has no roll to be given or withdrawn with its call state (R97): the restart writes its
record alone. -/
theorem restartSpanBackward_atRest (h : (s.circ c).moveSlot = none) :
    ∃ busy, (restartSpanBackward c s).circuits = s.circuits.modify c (spanRestarted busy) ∧
      (restartSpanBackward c s).moves = s.moves := by
  have hrec (f : Circuit → Circuit) : (s.modCirc c f).circ c = f (s.circ c) := by rw [circ_modCirc, if_pos rfl]
  simp only [restartSpanBackward, judgeCall, hrec, h]
  split
  · exact ⟨(s.circ c).busy, rfl, rfl⟩
  · simp only [modCirc_circuits, modify_modify]
    exact ⟨_, rfl, rfl⟩

@[simp] theorem info_restartSpanBackward (c' : CircuitId) : (restartSpanBackward c s).info c' = s.info c' := by
  simp [State.info]

variable (sl : Option SlotId)

/-- A slot that the circuit already holds is not written again (R52). -/
theorem writeSlot_same (h : (s.info c).slot = sl) : writeSlot c sl s = s := if_pos h

theorem info_writeSlot (c' : CircuitId) :
    (writeSlot c sl s).info c' = if c = c' then { s.info c' with slot := sl } else s.info c' := by
  by_cases h : (s.info c).slot = sl
  · rw [writeSlot_same s c sl h]
    split
    · next e => subst e; rw [← h]
    · rfl
  · rw [writeSlot, if_neg h, info_restartSpanBackward]
    exact Table.get_modify _ _ _ _

/-- A changed slot restarts the span backward record (R47), and that is all that the circuits and moves see of it. -/
theorem writeSlot_changed (h : (s.info c).slot ≠ sl) (hmove : (s.circ c).moveSlot = none) :
    ∃ busy, (writeSlot c sl s).circuits = s.circuits.modify c (spanRestarted busy) ∧
      (writeSlot c sl s).moves = s.moves := by
  rw [writeSlot, if_neg h]
  exact restartSpanBackward_atRest _ c hmove

theorem circ_writeSlot_ne (hmove : (s.circ c).moveSlot = none) {c' : CircuitId} (h : c' ≠ c) :
    (writeSlot c sl s).circ c' = s.circ c' := by
  by_cases hsl : (s.info c).slot = sl
  · rw [writeSlot_same s c sl hsl]
  · obtain ⟨busy, hcirc, -⟩ := writeSlot_changed s c sl hsl hmove
    rw [State.circ, hcirc, Table.get_modify_ne _ _ h.symm]
    rfl

theorem circ_writeSlot_changed (h : (s.info c).slot ≠ sl) (hmove : (s.circ c).moveSlot = none) :
    ((writeSlot c sl s).circ c).spBack = { code := 0b1001, cand := none, count := 0 } ∧
    ((writeSlot c sl s).circ c).spLast = none := by
  obtain ⟨busy, hcirc, -⟩ := writeSlot_changed s c sl h hmove
  rw [State.circ, hcirc, Table.get_modify_self]
  exact ⟨rfl, rfl⟩

theorem moves_writeSlot (hmove : (s.circ c).moveSlot = none) : (writeSlot c sl s).moves = s.moves := by
  by_cases hsl : (s.info c).slot = sl
  · rw [writeSlot_same s c sl hsl]
  · obtain ⟨busy, -, hmoves⟩ := writeSlot_changed s c sl hsl hmove
    exact hmoves

/-- The directory is written with the record: the new slot's entry names the circuit, the old slot's none (R46). -/
theorem directory_writeSlot (h : ∀ x, (s.info c).slot = some x → s.map.directory.get x = some c) (x : SlotId) :
    (writeSlot c sl s).map.directory.get x =
      if sl = some x then some c else if (s.info c).slot = some x then none else s.map.directory.get x := by
  by_cases hsl : (s.info c).slot = sl
  · rw [writeSlot_same s c sl hsl, hsl]
    split
    · next e => exact h x (hsl.trans e)
    · rfl
  · rw [writeSlot, if_neg hsl]
    cases hold : (s.info c).slot <;> cases sl <;> simp [Table.get_set]

end Slots

/-! SET-CIRCUIT (R52) -/

section SetCircuit

variable (s : State) (c : CircuitId)

theorem homeFree_iff : homeFree s c = true ↔ (s.circ c).state = .home ∧ (s.circ c).moveSlot = none := by
  simp [homeFree]

theorem heldByOther_iff (sl : Option SlotId) :
    heldByOther s c sl = false ↔ ∀ x y, sl = some x → s.map.directory.get x = some y → y = c := by
  cases sl with
  | none => simp [heldByOther]
  | some x =>
    have hx : (∀ x' y, some x = some x' → s.map.directory.get x' = some y → y = c) ↔
        ∀ y, s.map.directory.get x = some y → y = c :=
      ⟨fun h y => h x y rfl, fun h x' y e => Option.some.inj e ▸ h y⟩
    rw [hx]
    cases h : s.map.directory.get x <;> simp [heldByOther, h]

/-- The record and directory that SET-CIRCUIT writes once its checks have passed. -/
def setRecord (sl : Option SlotId) (p : Policy) (r n : Bool) : State :=
  (writeSlot c sl s).modInfo c fun i => { i with policy := p, rollOnCommand := r, pin := n }

variable {s c} {trunk channel : Byte} {slot : Word16} {policy roc pin : Byte} {sl : Option SlotId} {p : Policy}
  {r n : Bool}

/-- The checks of R52 behind its first, in their order. -/
theorem serveSetCircuit_inRange (hc : circuitArg trunk channel = some c) (hs : slotOperand slot = some sl)
    (hp : policyArg policy = some p) (hr : boolArg roc = some r) (hn : boolArg pin = some n) :
    serveSetCircuit trunk channel slot policy roc pin s =
      if (s.info c).mgmt then deny codeSetCircuit .mgmtChannel s
      else if !homeFree s c then deny codeSetCircuit .wrongState s
      else if heldByOther s c sl then deny codeSetCircuit .slotInUse s
      else (setRecord s c sl p r n, done codeSetCircuit (circuitRecord (setRecord s c sl p r n) c)) := by
  simp only [serveSetCircuit, hc, hs, hp, hr, hn, setRecord]

theorem info_setRecord (c' : CircuitId) :
    (setRecord s c sl p r n).info c' =
      if c = c' then { s.info c' with slot := sl, policy := p, rollOnCommand := r, pin := n } else s.info c' := by
  rw [setRecord, info_modInfo, info_writeSlot]
  split <;> rfl

@[simp] theorem circ_setRecord (c' : CircuitId) : (setRecord s c sl p r n).circ c' = (writeSlot c sl s).circ c' := rfl

@[simp] theorem directory_setRecord : (setRecord s c sl p r n).map.directory = (writeSlot c sl s).map.directory := rfl

@[simp] theorem moves_setRecord : (setRecord s c sl p r n).moves = (writeSlot c sl s).moves := rfl

theorem surroundings_setRecord : (setRecord s c sl p r n).surroundings = s.surroundings := by
  simp [State.surroundings, setRecord]

end SetCircuit

/-- Settles O45: each check of R52 is one branch of the service, and the state it leaves is the write of one slot. -/
theorem setCircuitWritesRecord : Obligations.SetCircuitWritesRecord := by
  unfold Obligations.SetCircuitWritesRecord
  intro s e tag trunk channel slot policy roc pin c sl p r n hready hmap hc hs hp hr hn
  obtain ⟨hdir, -, -⟩ := hmap
  simp only [exec_setCircuit_ready tag hready, serveSetCircuit_inRange hc hs hp hr hn, ← homeFree_iff, ← heldByOther_iff]
  refine ⟨?mgmtChannel, ?wrongState, ?slotInUse, ?written⟩
  case mgmtChannel =>
    intro hm
    simp [hm, deny]
  case wrongState =>
    intro hm hh
    simp [hm, hh, deny]
  case slotInUse =>
    intro hm hh hf
    simp [hm, hh, hf, deny]
  case written =>
    intro hm hh hf
    have hmove := ((homeFree_iff s c).mp hh).2
    simp only [hm, hh, hf, Bool.not_true, Bool.false_eq_true, if_false]
    refine ⟨_, rfl, ?_, ?_, ?_, ?_, ?_, ?_, ?_, ?_⟩
    · rw [surroundings_answered, surroundings_setRecord]
    · rw [moves_answered, moves_setRecord, moves_writeSlot s c sl hmove]
    · rw [info_answered, info_setRecord, if_pos rfl, ← hm]
    · intro c' hne
      rw [info_answered, info_setRecord, if_neg hne.symm, circ_answered, circ_setRecord, circ_writeSlot_ne s c sl hmove hne]
      exact ⟨rfl, rfl⟩
    · intro x
      rw [map_answered, directory_setRecord, directory_writeSlot s c sl fun y => (hdir y c).mpr]
    · intro hne
      rw [circ_answered, circ_setRecord]
      exact circ_writeSlot_changed s c sl hne hmove
    · intro heq
      rw [circ_answered, circ_setRecord, writeSlot_same s c sl heq]
    · rw [circuitRecord_answered]
      exact answered_isAnswered _ _ _ _

/-! The target slots of a block (R54) -/

section Fill

theorem fillTarget_val (b : Fin 16) (o : Bool) (ky : Fin 32) {p : Nat} (hp : p < 32) :
    (fillTarget b o ky p).val = 32 * b.val + if o then p ^^^ ky.val else (p + ky.val) % 32 := by
  have hx : p ^^^ ky.val < 32 := Nat.xor_lt_two_pow (n := 5) hp ky.isLt
  cases o with
  | false => rfl
  | true => simpa [fillTarget] using hx

theorem xor_xor_self (p q : Nat) : p ^^^ q ^^^ q = p := by rw [Nat.xor_assoc, Nat.xor_self, Nat.xor_zero]

/-- The 32 targets of a block are 32 different slots. -/
theorem fillTarget_injective {b : Fin 16} {o : Bool} {ky : Fin 32} {p q : Nat} (hp : p < 32) (hq : q < 32)
    (h : fillTarget b o ky p = fillTarget b o ky q) : p = q := by
  have hv := congrArg Fin.val h
  rw [fillTarget_val b o ky hp, fillTarget_val b o ky hq] at hv
  have hky := ky.isLt
  cases o with
  | false => simp only [Bool.false_eq_true, if_false] at hv; omega
  | true =>
    simp only [if_true] at hv
    rw [← xor_xor_self p ky.val, Nat.add_left_cancel hv, xor_xor_self]

/-! The fill of one circuit, and of a list of circuits (R54) -/

variable (target : CircuitId → SlotId) (p : Policy)

/-- What a fill leaves of one loaded record. -/
def fillInfo (sl : SlotId) (i : Loaded) : Loaded :=
  if i.mgmt then { i with policy := p } else { i with slot := some sl, policy := p }

theorem info_fillCircuit (sl : SlotId) (c c' : CircuitId) (s : State) :
    (fillCircuit sl p c s).info c' = if c = c' then fillInfo p sl (s.info c') else s.info c' := by
  rw [fillCircuit, info_modInfo]
  by_cases h : c = c'
  · subst h
    cases hm : (s.info c).mgmt <;> simp [fillInfo, hm, info_writeSlot]
  · cases hm : (s.info c).mgmt <;> simp [h, info_writeSlot]

/-- The management channel gets the policy and no slot. -/
theorem fillCircuit_mgmt (sl : SlotId) {c : CircuitId} {s : State} (h : (s.info c).mgmt = true) :
    fillCircuit sl p c s = s.modInfo c fun i => { i with policy := p } := by
  rw [fillCircuit, if_pos h]

theorem fillCircuit_mapped (sl : SlotId) {c : CircuitId} {s : State} (h : (s.info c).mgmt = false) :
    fillCircuit sl p c s = (writeSlot c (some sl) s).modInfo c fun i => { i with policy := p } := by
  simp [fillCircuit, h]

/-- What a fill of the circuits of `l`, each with its target, makes of state `s`. -/
structure Filled (l : List CircuitId) (s t : State) : Prop where
  surroundings : t.surroundings = s.surroundings
  moves : t.moves = s.moves
  info : ∀ c, t.info c = if c ∈ l then fillInfo p (target c) (s.info c) else s.info c
  untouched : ∀ c, c ∉ l ∨ (s.info c).mgmt = true → t.circ c = s.circ c
  restarted : ∀ c ∈ l, (s.info c).mgmt = false →
    (t.circ c).spBack = { code := 0b1001, cand := none, count := 0 } ∧ (t.circ c).spLast = none
  taken : ∀ c ∈ l, (s.info c).mgmt = false → t.map.directory.get (target c) = some c
  others : ∀ x, (∀ c ∈ l, (s.info c).mgmt = false → target c ≠ x) → t.map.directory.get x = s.map.directory.get x

/-- The circuit is free to be filled: the management channel, or without span slot and move slot (R55). -/
def Fillable (s : State) (c : CircuitId) : Prop :=
  (s.info c).mgmt = false → (s.info c).slot = none ∧ (s.circ c).moveSlot = none

variable {target p}

/-- The fill of one circuit is the fill of the list of that circuit alone. -/
theorem filled_singleton {s : State} {a : CircuitId} (h : Fillable s a) :
    Filled target p [a] s (fillCircuit (target a) p a s) := by
  have hinfo (c : CircuitId) : (fillCircuit (target a) p a s).info c =
      if c ∈ [a] then fillInfo p (target c) (s.info c) else s.info c := by
    rw [info_fillCircuit]
    by_cases hc : a = c
    · subst hc; simp
    · simp [hc, Ne.symm hc]
  cases hm : (s.info a).mgmt with
  | true =>
    have heq := fillCircuit_mgmt p (target a) hm
    refine ⟨by rw [heq]; rfl, by rw [heq]; rfl, hinfo, fun c _ => by rw [heq]; rfl, ?_, ?_, fun x _ => by rw [heq]; rfl⟩
    all_goals
      intro c hc hf
      rw [List.mem_singleton.mp hc, hm] at hf
      cases hf
  | false =>
    obtain ⟨hslot, hmove⟩ := h hm
    have heq := fillCircuit_mapped p (target a) hm
    have hdir (x : SlotId) : (fillCircuit (target a) p a s).map.directory.get x =
        if target a = x then some a else s.map.directory.get x := by
      rw [heq]
      simpa [hslot] using directory_writeSlot s a (some (target a)) (by simp [hslot]) x
    constructor
    case surroundings => simp [State.surroundings]
    case moves => rw [heq]; exact moves_writeSlot s a _ hmove
    case info => exact hinfo
    case untouched =>
      intro c hc
      have hne : c ≠ a := fun e => by subst e; simp [hm] at hc
      rw [heq]
      exact circ_writeSlot_ne s a _ hmove hne
    case restarted =>
      intro c hc _
      obtain rfl := List.mem_singleton.mp hc
      rw [heq]
      exact circ_writeSlot_changed s c _ (by simp [hslot]) hmove
    case taken =>
      intro c hc _
      obtain rfl := List.mem_singleton.mp hc
      rw [hdir, if_pos rfl]
    case others =>
      intro x hx
      rw [hdir, if_neg (hx a (List.mem_singleton.mpr rfl) hm)]

@[simp] theorem fillInfo_mgmt (sl : SlotId) (i : Loaded) : (fillInfo p sl i).mgmt = i.mgmt := by
  unfold fillInfo
  split <;> rfl

theorem Filled.mgmt {l : List CircuitId} {s t : State} (h : Filled target p l s t) (c : CircuitId) :
    (t.info c).mgmt = (s.info c).mgmt := by
  rw [h.info]
  split <;> simp

/-- A circuit outside the list stays as free to be filled as it was. -/
theorem Filled.fillable {l : List CircuitId} {s t : State} (h : Filled target p l s t) {c : CircuitId} (hc : c ∉ l)
    (hf : Fillable s c) : Fillable t c := by
  unfold Fillable
  rw [h.info, if_neg hc, h.untouched c (.inl hc)]
  exact hf

/-- Fills of a circuit and then of a list without it make up the fill of both. -/
theorem Filled.cons {a : CircuitId} {l : List CircuitId} {s u t : State} (ha : Filled target p [a] s u)
    (hl : Filled target p l u t) (hmem : a ∉ l) (hne : ∀ c ∈ l, target c ≠ target a) :
    Filled target p (a :: l) s t := by
  have hother {c : CircuitId} (h : c ≠ a) : c ∉ [a] := by simpa using h
  constructor
  case surroundings => exact hl.surroundings.trans ha.surroundings
  case moves => exact hl.moves.trans ha.moves
  case info =>
    intro c
    rw [hl.info, ha.info]
    by_cases h : c = a
    · subst h; simp [hmem]
    · simp [h]
  case untouched =>
    intro c hc
    rw [List.mem_cons, not_or] at hc
    rw [hl.untouched c (hc.imp And.right (ha.mgmt c).trans), ha.untouched c (hc.imp_left fun h => hother h.1)]
  case restarted =>
    intro c hc hm
    rcases List.mem_cons.mp hc with rfl | hc
    · rw [hl.untouched c (.inl hmem)]
      exact ha.restarted c (List.mem_singleton.mpr rfl) hm
    · exact hl.restarted c hc ((ha.mgmt c).trans hm)
  case taken =>
    intro c hc hm
    rcases List.mem_cons.mp hc with rfl | hc
    · rw [hl.others _ fun d hd _ => hne d hd]
      exact ha.taken c (List.mem_singleton.mpr rfl) hm
    · exact hl.taken c hc ((ha.mgmt c).trans hm)
  case others =>
    intro x hx
    rw [hl.others x fun c hc hm => hx c (List.mem_cons_of_mem a hc) ((ha.mgmt c).symm.trans hm), ha.others x]
    intro c hc hm
    exact hx c (List.mem_cons.mpr (.inl (List.mem_singleton.mp hc))) hm

/-- A fill of different circuits with different targets, one after the other, is the fill of them all. -/
theorem filled_forEach {l : List CircuitId} {s : State} (hnd : l.Nodup)
    (hinj : ∀ c ∈ l, ∀ d ∈ l, target c = target d → c = d) (hfree : ∀ c ∈ l, Fillable s c) :
    Filled target p l s (forEach l (fun c => fillCircuit (target c) p c) s) := by
  induction l generalizing s with
  | nil => constructor <;> simp [forEach]
  | cons a l ih =>
    obtain ⟨hmem, hnd⟩ := List.nodup_cons.mp hnd
    have ha : Filled target p [a] s (fillCircuit (target a) p a s) :=
      filled_singleton (hfree a (List.mem_cons_self ..))
    have hne {c : CircuitId} (hc : c ∈ l) : c ≠ a := fun e => hmem (e ▸ hc)
    refine ha.cons (ih hnd ?_ ?_) hmem ?_
    · exact fun c hc d hd => hinj c (List.mem_cons_of_mem a hc) d (List.mem_cons_of_mem a hd)
    · exact fun c hc => ha.fillable (by simpa using hne hc) (hfree c (List.mem_cons_of_mem a hc))
    · exact fun c hc e => hne hc (hinj c (List.mem_cons_of_mem a hc) a (List.mem_cons_self ..) e)

end Fill

/-! FILL-BLOCK (R54, R55) -/

section FillBlock

/-! Operands -/

theorem trunkArg_eq_some {b : Byte} {k : TrunkId} : trunkArg b = some k ↔ b.toNat = k.val := by
  have hk := k.isLt
  unfold trunkArg
  split
  · simp [Fin.ext_iff]
  · simp only [reduceCtorEq, false_iff]
    omega

theorem lt_of_boolArg {b : Byte} {o : Bool} (h : boolArg b = some o) : b.toNat < 2 := by
  unfold boolArg at h
  split at h
  · next e => subst e; decide
  · split at h
    · next e => subst e; decide
    · cases h

theorem boolArg_of_lt {b : Byte} (h : b.toNat < 2) : boolArg b = some (decide (b = 1)) := by
  obtain rfl | rfl : b = 0 ∨ b = 1 := by bv_omega
  · rfl
  · rfl

theorem lt_of_policyArg {b : Byte} {p : Policy} (h : policyArg b = some p) : b.toNat < 3 := by
  unfold policyArg at h
  split at h
  case h_4 => cases h
  all_goals omega

theorem policyArg_of_lt {b : Byte} (h : b.toNat < 3) :
    ∃ p, policyArg b = some p ∧ (p = .auto ↔ b = 0) ∧ (p = .atClear ↔ b = 1) ∧ (p = .force ↔ b = 2) := by
  obtain rfl | rfl | rfl : b = 0 ∨ b = 1 ∨ b = 2 := by bv_omega
  · exact ⟨.auto, rfl, by decide⟩
  · exact ⟨.atClear, rfl, by decide⟩
  · exact ⟨.force, rfl, by decide⟩

section Operands

variable {trunk block ordering key policy : Byte}

/-- FILL-BLOCK finds no operands where one is out of its range (R55). -/
theorem fillOperands_eq_none
    (h : 15 < trunk.toNat ∨ 15 < block.toNat ∨ 1 < ordering.toNat ∨ 31 < key.toNat ∨ 2 < policy.toNat) :
    fillOperands trunk block ordering key policy = none := by
  unfold fillOperands
  split
  · next k b o p hk hb ho hp =>
    have hk' := trunkArg_eq_some.mp hk
    have hb' := trunkArg_eq_some.mp hb
    have ho' := lt_of_boolArg ho
    have hp' := lt_of_policyArg hp
    exact dif_neg (by omega)
  · rfl

/-- Operands in range are read as the numbers and names they code (10.6). -/
theorem fillOperands_inRange (hk : trunk.toNat < 16) (hb : block.toNat < 16) (ho : ordering.toNat < 2)
    (hky : key.toNat < 32) (hp : policy.toNat < 3) :
    ∃ k b o ky p, fillOperands trunk block ordering key policy = some (k, b, o, ky, p) ∧ k.val = trunk.toNat ∧
      b.val = block.toNat ∧ (o = true ↔ ordering = 1) ∧ ky.val = key.toNat ∧
      (p = .auto ↔ policy = 0) ∧ (p = .atClear ↔ policy = 1) ∧ (p = .force ↔ policy = 2) := by
  obtain ⟨p, hp', hnames⟩ := policyArg_of_lt hp
  have hk' : trunkArg trunk = some ⟨trunk.toNat, hk⟩ := trunkArg_eq_some.mpr rfl
  have hb' : trunkArg block = some ⟨block.toNat, hb⟩ := trunkArg_eq_some.mpr rfl
  refine ⟨⟨trunk.toNat, hk⟩, ⟨block.toNat, hb⟩, _, ⟨key.toNat, hky⟩, p, ?_, rfl, rfl, decide_eq_true_iff, rfl, hnames⟩
  simp only [fillOperands, hk', hb', boolArg_of_lt ho, hp', hky, dif_pos]

end Operands

/-! The checks, the fill and the positions left unassigned -/

variable (s : State) (k : TrunkId) (target : CircuitId → SlotId) (p : Policy)

/-- A fill gives a slot to the circuit (R54). -/
def GetsSlot (c : CircuitId) : Prop := trunkOf c = k ∧ (s.info c).mgmt = false

theorem mem_fillCircuits (c : CircuitId) : c ∈ fillCircuits s k ↔ GetsSlot s k c := by
  simp [fillCircuits, GetsSlot, mem_trunkCircuits]

/-- The second check of R55. -/
theorem fillReady_iff : ((fillCircuits s k).all fun c => homeFree s c && (s.info c).slot.isNone) = true ↔
    ∀ c, GetsSlot s k c → (s.circ c).state = .home ∧ (s.circ c).moveSlot = none ∧ (s.info c).slot = none := by
  simp only [List.all_eq_true, mem_fillCircuits, Bool.and_eq_true, homeFree_iff, Option.isNone_iff_eq_none, and_assoc]

/-- The third check of R55. -/
theorem fillFree_iff : ((fillCircuits s k).any fun c => (s.map.directory.get (target c)).isSome) = false ↔
    ∀ c, GetsSlot s k c → s.map.directory.get (target c) = none := by
  simp only [List.any_eq_false, mem_fillCircuits, Option.not_isSome_iff_eq_none]

/-- The channel positions of a trunk whose targets a fill leaves unassigned, rising. -/
def unassigned : List Nat := (List.range 32).filter fun q => (circuitAt k q).all fun c => (s.info c).mgmt

theorem mem_unassigned (q : Nat) : q ∈ unassigned s k ↔ q < 32 ∧ ∀ c, GetsSlot s k c → channelOf c ≠ q := by
  simp only [unassigned, List.mem_filter, List.mem_range, Option.all_eq_true, circuitAt_eq_some, GetsSlot]
  refine and_congr_right fun _ => forall_congr' fun c => ?_
  cases (s.info c).mgmt <;> simp

theorem pairwise_unassigned : (unassigned s k).Pairwise (· < ·) := List.pairwise_lt_range.filter _

/-- Positions 0 and 16 are left unassigned, and that of the management channel on its trunk (R54). -/
theorem length_unassigned_le (hmap : MapSound s) : (unassigned s k).length ≤ 3 := by
  obtain ⟨-, hflag, -⟩ := hmap
  have hsub : unassigned s k ⊆ [0, 16, (strapMgmtCircuit s.dev.straps).elim 0 channelOf] := by
    intro q hq
    simp only [unassigned, List.mem_filter, List.mem_range] at hq
    obtain ⟨hlt, hall⟩ := hq
    cases hc : circuitAt k q with
    | none =>
      have hq : q = 0 ∨ q = 16 := by
        unfold circuitAt at hc
        split at hc
        · cases hc
        · split at hc
          · cases hc
          · omega
      rcases hq with rfl | rfl
      · exact List.mem_cons_self
      · exact List.mem_cons_of_mem _ List.mem_cons_self
    | some c =>
      rw [hc] at hall
      have hm : strapMgmtCircuit s.dev.straps = some c := (hflag c).mp hall
      simp [hm, (circuitAt_eq_some.mp hc).2]
  have hnd : (unassigned s k).Nodup := (pairwise_unassigned s k).imp Nat.ne_of_lt
  exact hnd.length_le_of_subset hsub

/-- The trunk with the fill made. -/
def fillTrunk : State := forEach (trunkCircuits k) (fun c => fillCircuit (target c) p c) s

variable {s k} {trunk block ordering key policy : Byte} {b : Fin 16} {o : Bool} {ky : Fin 32} {p : Policy}

/-- The checks of R55 behind its first, in their order. -/
theorem serveFillBlock_inRange (h : fillOperands trunk block ordering key policy = some (k, b, o, ky, p)) :
    serveFillBlock trunk block ordering key policy s =
      if !((fillCircuits s k).all fun c => homeFree s c && (s.info c).slot.isNone) then deny codeFillBlock .wrongState s
      else if (fillCircuits s k).any fun c => (s.map.directory.get (fillTarget b o ky (channelOf c))).isSome then
        deny codeFillBlock .slotInUse s
      else (fillTrunk s k (fun c => fillTarget b o ky (channelOf c)) p, done codeFillBlock
        (nat8 (unassigned s k).length ::
          (((unassigned s k).flatMap fun q => nat16 (fillTarget b o ky q).val) ++ List.replicate 6 0).take 6)) := by
  simp only [serveFillBlock, h, fillTrunk, unassigned, List.length_map, List.flatMap_map]

theorem serveFillBlock_outOfRange (h : fillOperands trunk block ordering key policy = none) :
    serveFillBlock trunk block ordering key policy s = (s, refusal codeFillBlock .outOfRange) := by
  simp only [serveFillBlock, h, deny]

/-- A trunk ready for it is filled whole: its circuits are different and so are their targets. -/
theorem filled_fillTrunk (hready : ∀ c, GetsSlot s k c →
      (s.circ c).state = .home ∧ (s.circ c).moveSlot = none ∧ (s.info c).slot = none) :
    Filled (fun c => fillTarget b o ky (channelOf c)) p (trunkCircuits k) s
      (fillTrunk s k (fun c => fillTarget b o ky (channelOf c)) p) := by
  refine filled_forEach (nodup_trunkCircuits k) ?_ ?_
  · intro c hc d hd h
    rw [mem_trunkCircuits] at hc hd
    exact eq_of_trunkOf_of_channelOf (hc.trans hd.symm) (fillTarget_injective (channelOf_lt c) (channelOf_lt d) h)
  · intro c hc hm
    obtain ⟨_, hmove, hslot⟩ := hready c ⟨mem_trunkCircuits.mp hc, hm⟩
    exact ⟨hslot, hmove⟩

end FillBlock

/-- Settles O46: the checks of R55 are the branches of the service, and the state it leaves is the fold of one circuit's
fill over the trunk, whose 32 targets differ. -/
theorem fillBlockMapsTrunk : Obligations.FillBlockMapsTrunk := by
  unfold Obligations.FillBlockMapsTrunk
  refine ⟨fun s e tag trunk block ordering key policy hready => ⟨fun h => ?_, fillOperands_inRange⟩, ?_⟩
  · rw [exec_fillBlock_ready tag hready, serveFillBlock_outOfRange (fillOperands_eq_none h)]
  intro s e tag trunk block ordering key policy k b o ky p hready hmap hops
  simp only [exec_fillBlock_ready tag hready, serveFillBlock_inRange hops]
  have hstate := fillReady_iff s k
  have hfree := fillFree_iff s k fun c => fillTarget b o ky (channelOf c)
  simp only [GetsSlot] at hstate hfree
  simp only [← hstate, ← hfree]
  refine ⟨?wrongState, ?slotInUse, ?filled⟩
  case wrongState =>
    intro h
    simp [h, deny]
  case slotInUse =>
    intro h hf
    simp [h, hf, deny]
  case filled =>
    intro h hf
    have hfill := filled_fillTrunk (b := b) (o := o) (ky := ky) (p := p) ((fillReady_iff s k).mp h)
    simp only [h, hf, Bool.not_true, Bool.false_eq_true, if_false]
    refine ⟨_, rfl, ?_, ?_, ?_, ?_, ?_, ?_, unassigned s k, pairwise_unassigned s k, length_unassigned_le s k hmap,
      mem_unassigned s k, answered_isAnswered _ _ _ _⟩
    · rw [surroundings_answered, hfill.surroundings]
    · rw [moves_answered, hfill.moves]
    · rintro c ⟨hk, hm⟩
      have hc := mem_trunkCircuits.mpr hk
      rw [info_answered, map_answered, circ_answered, hfill.info, if_pos hc]
      exact ⟨fillTarget_val b o ky (channelOf_lt c), by simp [fillInfo, hm], hfill.taken c hc hm,
        hfill.restarted c hc hm⟩
    · intro c hk hm
      rw [info_answered, circ_answered, hfill.info, if_pos (mem_trunkCircuits.mpr hk), hfill.untouched c (.inr hm)]
      exact ⟨by simp [fillInfo, hm], rfl⟩
    · intro c hk
      have hc := mt mem_trunkCircuits.mp hk
      rw [info_answered, circ_answered, hfill.info, if_neg hc, hfill.untouched c (.inl hc)]
      exact ⟨rfl, rfl⟩
    · intro x hx
      rw [map_answered]
      exact hfill.others x fun c hc hm => hx c ⟨mem_trunkCircuits.mp hc, hm⟩

end Sys2Proof.Machine.MapLoading

/-! SUPPORT. Signalling and call state (04): debouncing, the call state, multiframe boundaries, and what the switch hears. -/
namespace Sys2Proof.Machine.Signalling

/-! Debouncing (R60, R61) -/

section Debouncing

variable {p : Nat} {gap : Bool} {code : Code} {d : Debounce}

/-- The code already held ends any run. -/
theorem observe_of_eq (h : code = d.code) : d.observe p gap code = { d with cand := none, count := 0 } := if_pos h

/-- The candidate once more, without a gap, adds to its run and is taken at the `p`-th observation. -/
theorem observe_of_cand (h : code ≠ d.code) (hc : d.cand = some code) :
    d.observe p false code =
      if p ≤ d.count + 1 then { code := code, cand := none, count := 0 } else { d with count := d.count + 1 } := by
  simp [Debounce.observe, h, ← hc]

/-- Another code than the candidate, or any code after a gap, begins a run of 1, too short to be taken. -/
theorem observe_of_restart (hp : 2 ≤ p) (h : code ≠ d.code) (hr : d.cand ≠ some code ∨ gap = true) :
    d.observe p gap code = { d with cand := some code, count := 1 } := by
  have hrun : (d.cand = some code && !gap) = false := by
    rcases hr with hr | rfl
    · simp [hr]
    · simp
  have hshort : ¬ p ≤ 1 := by omega
  simp [Debounce.observe, h, hrun, hshort]

end Debouncing

/-! The backward code of the selected path, and the call state judged from it (R63, R65) -/

section CallState

variable {r : Circuit}

theorem backCode_of_copper (h : r.sel = .copper) : backCode r = r.cuBack.code := by
  simp [backCode, h]

theorem backCode_of_span (h : r.sel = .span) : backCode r = r.spBack.code := by
  simp [backCode, h]

theorem backCode_eq_iff {x : Code} :
    backCode r = x ↔ (r.sel = .copper → r.cuBack.code = x) ∧ (r.sel = .span → r.spBack.code = x) := by
  cases h : r.sel with
  | copper => simp [backCode_of_copper h]
  | span => simp [backCode_of_span h]

theorem callBusy_eq_false_iff {t : TrunkCodes} :
    callBusy t r = false ↔ r.fwd.code = t.idleOut ∧ backCode r = t.idleIn := by
  change (!(r.fwd.code = t.idleOut && backCode r = t.idleIn)) = false ↔ _
  simp

end CallState

/-! Multiframe boundaries (00, Frames and multiframes) -/

section Boundaries

variable (f : Frame)

/-- Without its low four bits a frame number is the first of its multiframe. -/
theorem toNat_multiframeStart : (f &&& 0xFFFFFFF0#32).toNat = f.toNat / 16 * 16 := by
  have hshift : f &&& 0xFFFFFFF0#32 = (f >>> 4) <<< 4 := by
    ext i hi
    have hmask : (0xFFFFFFF0#32).getLsbD i = decide (4 ≤ i) := by
      revert i
      decide
    by_cases h4 : 4 ≤ i
    · simp [← BitVec.getLsbD_eq_getElem, hmask, h4, hi, Nat.add_sub_cancel' h4]
    · simp [← BitVec.getLsbD_eq_getElem, hmask, h4, hi]
  rw [hshift, BitVec.toNat_shiftLeft, BitVec.toNat_ushiftRight, Nat.shiftRight_eq_div_pow, Nat.shiftLeft_eq]
  omega

theorem nextBoundary_mod : (nextBoundary f).toNat % 16 = 0 := by
  rw [nextBoundary, BitVec.toNat_add, toNat_multiframeStart]
  change (f.toNat / 16 * 16 + 16) % 2 ^ 32 % 16 = 0
  omega

/-- The next boundary is as many frames away as its multiframe still holds, the frame in course among them. -/
theorem nextBoundary_sub : (nextBoundary f - f).toNat = 16 - f.toNat % 16 := by
  have hf := f.isLt
  rw [nextBoundary, BitVec.toNat_sub, BitVec.toNat_add, toNat_multiframeStart]
  change (2 ^ 32 - f.toNat + (f.toNat / 16 * 16 + 16) % 2 ^ 32) % 2 ^ 32 = _
  omega

end Boundaries

/-- Settles O16: an observation repeats the code held, repeats the candidate, or begins a run; the call state is judged
from the backward code of the selected path; a boundary is as far away as the rest of the multiframe is long. -/
theorem debounceAndCallState : Obligations.DebounceAndCallState := by
  unfold Obligations.DebounceAndCallState
  refine ⟨fun P code d hP => ⟨?held, ?counted, ?taken, ?begun, ?afterGap⟩, fun t r => ?callState, fun f => ?boundary⟩
  case held => exact observe_of_eq
  case counted =>
    intro hne hcand hlt
    rw [observe_of_cand hne hcand, if_neg (Nat.not_le.mpr hlt)]
  case taken =>
    intro hne hcand hle
    rw [observe_of_cand hne hcand, if_pos hle]
  case begun => exact fun hne hcand => observe_of_restart hP hne (.inl hcand)
  case afterGap => exact fun hne => observe_of_restart hP hne (.inr rfl)
  case callState => rw [callBusy_eq_false_iff, backCode_eq_iff]
  case boundary =>
    rw [nextBoundary_sub]
    exact ⟨nextBoundary_mod f, by omega, by omega⟩

/-! What the switch hears (R65, R20): one equation per case, each under the failure of the cases before it -/

section Heard

variable {s : State} {c : CircuitId} {t : TrunkCodes} {r : Circuit}

theorem frozenOrSteady_of_freeze {f : Freeze} (h : r.freeze = some f) : frozenOrSteady r = f.code := by
  simp [frozenOrSteady, h]

theorem frozenOrSteady_of_none (h : r.freeze = none) : frozenOrSteady r = backCode r := by
  simp [frozenOrSteady, h]

theorem presentedCode_of_conditioned (h : r.conditioned = true) : presentedCode t r = t.conditioning := if_pos h

theorem presentedCode_of_blocked (hc : r.conditioned = false) (hb : r.blocked = true) :
    presentedCode t r = t.blocking := by
  simp [presentedCode, hc, hb]

theorem presentedCode_of_unblocked (hc : r.conditioned = false) (hb : r.blocked = false) :
    presentedCode t r = frozenOrSteady r := by
  simp [presentedCode, hc, hb]

theorem agentOctet_of_some {x : SlotTx} (h : s.mgmt.slotTx = some x) : agentOctet s = octetAt x.octets x.sent := by
  simp [agentOctet, h]

theorem agentOctet_of_none (h : s.mgmt.slotTx = none) : agentOctet s = 0 := by
  simp [agentOctet, h]

theorem heardCode_of_consumed (h : consumed s c = true) :
    heardCode s c = (s.trunk (trunkOf c)).codes.blocking := if_pos h

theorem heardCode_of_not_consumed (h : consumed s c = false) :
    heardCode s c = presentedCode (s.trunk (trunkOf c)).codes (s.circ c) := by
  simp [heardCode, h]

theorem heardOctet_of_consumed (h : consumed s c = true) : heardOctet s c = agentOctet s := if_pos h

theorem heardOctet_of_conditioned (h : consumed s c = false) (hc : (s.circ c).conditioned = true) :
    heardOctet s c = (s.trunk (trunkOf c)).codes.vacant := by
  simp [heardOctet, h, hc]

/-- The bearer is that of the selected path, as many frames ago as its depth. -/
theorem heardOctet_of_unconditioned (h : consumed s c = false) (hc : (s.circ c).conditioned = false) :
    heardOctet s c =
      histOctet s c (s.circ c).sel (s.now - ((s.circ c).depth (s.circ c).sel).setWidth 32) := by
  simp [heardOctet, h, hc]

end Heard

/-- Settles O8, by the cases of R65 in their order: consumed, conditioned, blocked, frozen, and the selected path. -/
theorem switchHearsFirstCaseThatApplies : Obligations.SwitchHearsFirstCaseThatApplies := by
  unfold Obligations.SwitchHearsFirstCaseThatApplies
  intro s c r codes
  refine ⟨fun h => ?consumed, fun h => ⟨fun hc => ?conditioned, fun hc =>
    ⟨?bearer, fun hb => ?blocked, ?freeze, ?copper, ?span⟩⟩⟩
  case consumed =>
    rw [heardOctet_of_consumed h]
    exact ⟨heardCode_of_consumed h, fun _ => agentOctet_of_some, agentOctet_of_none⟩
  case conditioned =>
    rw [heardCode_of_not_consumed h]
    exact ⟨heardOctet_of_conditioned h hc, presentedCode_of_conditioned hc⟩
  case bearer =>
    rw [heardOctet_of_unconditioned h hc, BitVec.ofNat_toNat]
  case blocked => rw [heardCode_of_not_consumed h, presentedCode_of_blocked hc hb]
  case freeze =>
    intro hb f hf
    rw [heardCode_of_not_consumed h, presentedCode_of_unblocked hc hb, frozenOrSteady_of_freeze hf]
  case copper =>
    intro hb hf hsel
    rw [heardCode_of_not_consumed h, presentedCode_of_unblocked hc hb, frozenOrSteady_of_none hf, backCode_of_copper hsel]
  case span =>
    intro hb hf hsel
    rw [heardCode_of_not_consumed h, presentedCode_of_unblocked hc hb, frozenOrSteady_of_none hf, backCode_of_span hsel]

end Sys2Proof.Machine.Signalling

/-! SUPPORT. Path alignment and equalisation (06): what the reads of circuits, moves and correlators give after the updates
they meet, the grant, the windows and their results, the confirmation, the failed measurement and the quiet test. -/
namespace Sys2Proof.Machine.Alignment

open MapLoading (modify_modify)

/-! The lowest index of a table -/

section Lowest

variable {n : Nat} {α : Type} {p : α → Bool} {t : Table n α} {i : Fin n}

theorem indices_sublist_finRange (p : α → Bool) (t : Table n α) : (t.indices p).Sublist (List.finRange n) := by
  have hfst : ((List.finRange n).zip t.cells).map Prod.fst = List.finRange n :=
    List.map_fst_zip (by simp [t.len])
  exact hfst ▸ List.Sublist.map _ List.filter_sublist

theorem pairwise_indices (p : α → Bool) (t : Table n α) : (t.indices p).Pairwise (· < ·) :=
  (List.pairwise_lt_finRange n).sublist (indices_sublist_finRange p t)

/-- The index found is the one whose entry satisfies the condition while no entry below it does. -/
theorem first?_eq_some (hi : p (t.get i) = true) (hlow : ∀ j, j < i → p (t.get j) = false) : t.first? p = some i := by
  have hmem := (Table.mem_indices p t i).mpr hi
  have hsorted := pairwise_indices p t
  unfold Table.first?
  cases hl : t.indices p with
  | nil => simp [hl] at hmem
  | cons k l =>
    rw [hl] at hmem hsorted
    have hk : p (t.get k) = true := (Table.mem_indices p t k).mp (hl ▸ List.mem_cons_self)
    rcases List.mem_cons.mp hmem with rfl | hil
    · rfl
    · have hlt := List.rel_of_pairwise_cons hsorted hil
      simp [hlow k hlt] at hk

end Lowest

/-! Reads after updates -/

section Reads

variable (s : State)

@[simp] theorem move?_modMove_self (m : MoveId) (f : Move → Move) : (s.modMove m f).move? m = (s.move? m).map f :=
  Table.get_modify_self _ _ _

@[simp] theorem circ_modCirc_self (c : CircuitId) (f : Circuit → Circuit) : (s.modCirc c f).circ c = f (s.circ c) :=
  Table.get_modify_self _ _ _

/-- A change that leaves the record as it is changes nothing. -/
theorem modCirc_eq_self {c : CircuitId} {f : Circuit → Circuit} (h : f (s.circ c) = s.circ c) : s.modCirc c f = s := by
  have htable : s.circuits.modify c f = s.circuits := by
    apply Table.ext_get
    intro j
    rw [Table.get_modify]
    split
    · next e => subst e; exact h
    · rfl
  simp only [State.modCirc, htable]

/-- A step that changes one circuit and one move slot touches no other. -/
theorem onlyMoveOf_of_modify {s t : State} {c : CircuitId} {m : MoveId} {f : Circuit → Circuit}
    {g : Option Move → Option Move} (hc : t.circuits = s.circuits.modify c f)
    (hm : t.moves.slots = s.moves.slots.modify m g) : OnlyMoveOf s t c m := by
  constructor
  · intro c' hne
    rw [State.circ, hc, Table.get_modify_ne _ _ hne.symm]
    rfl
  · intro m' hne
    rw [State.move?, hm, Table.get_modify_ne _ _ hne.symm]
    rfl

theorem circ_of_modify {s t : State} {c : CircuitId} {f : Circuit → Circuit} (hc : t.circuits = s.circuits.modify c f) :
    t.circ c = f (s.circ c) := by
  rw [State.circ, hc, Table.get_modify_self]
  rfl

theorem move?_of_modify {s t : State} {m : MoveId} {g : Option Move → Option Move}
    (hm : t.moves.slots = s.moves.slots.modify m g) : t.move? m = g (s.move? m) := by
  rw [State.move?, hm, Table.get_modify_self]
  rfl

end Reads

/-! Steps of a powered device -/

section Powered

variable {s : State} (h : s.dev.powered = true)
include h

theorem whenPowered_on (f : State → State) : whenPowered s f = .next (f s) := by simp [whenPowered, h]

theorem exec_correlatorGrant_on : exec .correlatorGrant s = .next (grantCorrelator s) := whenPowered_on h _

theorem exec_windowEvaluation_on (i : CorrId) : exec (.windowEvaluation i) s = .next (evaluateWindow i s) :=
  whenPowered_on h _

theorem exec_alignmentTimeout_on (i : CorrId) : exec (.alignmentTimeout i) s = .next (timeOutMeasurement i s) :=
  whenPowered_on h _

theorem exec_quietTest_on (m : MoveId) : exec (.quietTest m) s = .next (testQuiet m s) := whenPowered_on h _

end Powered

/-! The grant (R115, R116) -/

section Grant

variable {s : State} {e : QueueEntry} {rest : List QueueEntry}

/-- A correlator may be granted: it was free before the frame in course. -/
def grantable (k : Correlator) : Bool := k.rec?.isNone && !k.justFreed

theorem grantable_iff {k : Correlator} : grantable k = true ↔ k.rec? = none ∧ k.justFreed = false := by
  simp [grantable]

theorem grantable_eq_false_iff {k : Correlator} : grantable k = false ↔ k.rec? ≠ none ∨ k.justFreed = true := by
  rw [← Bool.not_eq_true, grantable_iff, Classical.not_and_iff_not_or_not, Bool.not_eq_false]

/-- The record filled at the grant (R116). -/
def grantedRecord (s : State) (c : CircuitId) (d : Dir) : Measure :=
  { circuit := c, dir := d, oldDepth := (s.circ c).depth d.oldPath, window := s.params.window,
    distinct := s.params.distinct, e0 := s.now, next := 1, cand := none, noneStreak := 0, timeout := .counting 0 }

theorem grantCorrelator_of_nil (h : s.align.queue = []) : grantCorrelator s = s := by
  simp [grantCorrelator, h]

theorem grantCorrelator_of_fresh (h : s.align.queue = e :: rest) (he : e.fresh = true) : grantCorrelator s = s := by
  simp [grantCorrelator, h, he]

/-- With no correlator to grant the queue waits. -/
theorem grantCorrelator_of_none (h : ∀ j, grantable (s.align.corrs.get j) = false) : grantCorrelator s = s := by
  have hfirst : (s.align.corrs.first? fun k => k.rec?.isNone && !k.justFreed) = none := Table.first?_none.mpr h
  unfold grantCorrelator
  split
  · rfl
  · simp [hfirst]

theorem grantCorrelator_of_grantable {i : CorrId} {d : Dir} (h : s.align.queue = e :: rest) (he : e.fresh = false)
    (hi : grantable (s.align.corrs.get i) = true) (hlow : ∀ j, j < i → grantable (s.align.corrs.get j) = false)
    (hd : (s.circ e.circuit).dir = some d) :
    grantCorrelator s = s.modAlign fun a =>
      { a with
        queue := rest
        corrs := a.corrs.set i { rec? := some (grantedRecord s e.circuit d), justFreed := false } } := by
  have hfirst : s.align.corrs.first? (fun k => k.rec?.isNone && !k.justFreed) = some i := first?_eq_some hi hlow
  simp [grantCorrelator, h, he, hfirst, hd, grantedRecord]

end Grant

/-- Settles O35: the grant goes to the lowest grantable correlator, and an empty queue, a fresh head or no such correlator
each leave the state as it is. -/
theorem correlatorGranted : Obligations.CorrelatorGranted := by
  unfold Obligations.CorrelatorGranted
  intro s hpower
  simp only [exec_correlatorGrant_on hpower]
  refine ⟨?granted, ?waits⟩
  case granted =>
    intro e rest i d hqueue hfresh hrec hfreed hlow hdir
    have hi : grantable (s.align.corrs.get i) = true := grantable_iff.mpr ⟨hrec, hfreed⟩
    have hbelow (j : CorrId) (hj : j < i) : grantable (s.align.corrs.get j) = false :=
      grantable_eq_false_iff.mpr (hlow j hj)
    rw [grantCorrelator_of_grantable hqueue hfresh hi hbelow hdir]
    refine ⟨_, rfl, rfl, rfl, ?_, fun j hne => Table.get_set_ne _ _ hne.symm, rfl, rfl, rfl⟩
    rw [modAlign_align, Table.get_set_self]
    rfl
  case waits =>
    rintro (hnil | ⟨e, rest, hqueue, hfresh⟩ | hnone)
    · rw [grantCorrelator_of_nil hnil]
    · rw [grantCorrelator_of_fresh hqueue hfresh]
    · rw [grantCorrelator_of_none fun j => grantable_eq_false_iff.mpr (hnone j)]

/-! A request made on a usable span with room to queue it (R151, R153) -/

section Requests

variable {s : State} {m : MoveId} {v : Move} {sl : SlotId} (k : ReqKind) (b : Bool)

theorem offerRequest_of_slot (h : (s.info v.circuit).slot = some sl) (o : Option MoveId) :
    offerRequest v k b o s = offerNotice (sending m v k b sl).notice o s := by
  simp [offerRequest, requestNotice, h, sending]

/-- The request replaces the one before it, whose queued sending goes, and its first sending joins the queue's tail. -/
theorem makeRequest_room (h : InFlightWith s m v sl) :
    makeRequest m k b s =
      ((dropOwned m s).modMove m fun w => { w with request := some (freshRequest s k b) }).modLink fun l =>
        { l with outQ := l.outQ ++ [sending m v k b sl] } := by
  obtain ⟨-, hmove, hslot, husable, hroom⟩ := h
  simp only [makeRequest, hmove]
  rw [offerRequest_of_slot (m := m) k b (by exact hslot), offerNotice_room]
  · rfl
  · exact husable
  · exact Nat.lt_of_le_of_lt (List.length_filter_le _ _) hroom

theorem slots_makeRequest (h : InFlightWith s m v sl) :
    (makeRequest m k b s).moves.slots =
      s.moves.slots.modify m (Option.map fun w => { w with request := some (freshRequest s k b) }) := by
  rw [makeRequest_room k b h]
  rfl

theorem outQ_makeRequest (h : InFlightWith s m v sl) :
    (makeRequest m k b s).link.outQ = withoutOwned m s.link.outQ ++ [sending m v k b sl] := by
  rw [makeRequest_room k b h]
  rfl

end Requests

/-! A receive path selected for a circuit that waits for no roll (R64, R67, R69 to R71, R79) -/

section Paths

variable {s : State} {c : CircuitId}

/-- The call state of such a circuit is judged without a roll given or withdrawn (R97). -/
theorem judgeCall_of_not_awaitsRoll (h : (s.circ c).state.awaitsRoll = false) :
    judgeCall c s = s.modCirc c fun r => { r with busy := callBusy (s.trunk (trunkOf c)).codes r } := by
  by_cases hb : callBusy (s.trunk (trunkOf c)).codes (s.circ c) = (s.circ c).busy
  · have hself : (s.modCirc c fun r => { r with busy := callBusy (s.trunk (trunkOf c)).codes r }) = s :=
      modCirc_eq_self s (by simp only [hb])
    rw [hself]
    exact if_pos hb
  · have hset : (s.modCirc c fun r => { r with busy := callBusy (s.trunk (trunkOf c)).codes (s.circ c) }) =
        s.modCirc c fun r => { r with busy := callBusy (s.trunk (trunkOf c)).codes r } := rfl
    simp only [judgeCall, if_neg hb, h, hset]
    cases (s.circ c).moveSlot <;> rfl

/-- The record of a circuit that now listens to path `p`. -/
def listening (s : State) (c : CircuitId) (p : Path) (how : Change) (r : Circuit) : Circuit :=
  { r with
    sel := p
    conditioned := !s.pathAvail c p
    restore := .stopped
    freeze := match how with
      | .other => r.freeze
      | _ => some { code := r.heard, endFrame := s.now + BitVec.ofNat 32 (16 * s.params.freezeNow) }
    busy := callBusy (s.trunk (trunkOf c)).codes { r with sel := p } }

theorem modCirc_modCirc (f g : Circuit → Circuit) : (s.modCirc c f).modCirc c g = s.modCirc c fun r => g (f r) := by
  simp only [State.modCirc, modify_modify]

theorem selectPath_of_not_awaitsRoll (h : (s.circ c).state.awaitsRoll = false) (p : Path) (how : Change) :
    selectPath c p how s = s.modCirc c (listening s c p how) := by
  unfold selectPath
  rw [judgeCall_of_not_awaitsRoll (by simpa using h), modCirc_modCirc]
  rfl

end Paths

/-! A circuit off the alignment unit (R114, R116) -/

section Leaving

variable (s : State) (c : CircuitId)

theorem not_queued_leaveAlign : ∀ e ∈ (leaveAlign c s).align.queue, e.circuit ≠ c := by
  intro e he
  simpa using (List.mem_filter.mp he).2

/-- A correlator keeps its record exactly when another circuit is measured on it. -/
theorem rec?_leaveAlign (i : CorrId) :
    ((leaveAlign c s).align.corrs.get i).rec? = (s.align.corrs.get i).rec?.filter fun x => x.circuit != c := by
  simp only [leaveAlign, modAlign_align, Table.get_map]
  cases hrec : (s.align.corrs.get i).rec? with
  | none => simp [hrec]
  | some x => by_cases hx : x.circuit = c <;> simp [hx, hrec, Option.filter]

theorem not_measured_leaveAlign : ∀ i x, ((leaveAlign c s).align.corrs.get i).rec? = some x → x.circuit ≠ c := by
  intro i x hx
  rw [rec?_leaveAlign, Option.filter_eq_some_iff] at hx
  simpa using hx.2

end Leaving

/-! A hitless move that fails (R98) -/

section Failing

variable {s : State} {m : MoveId} {v : Move} {sl : SlotId}

/-- The move's timers stop and its roll is withdrawn (R98). -/
def stopMove (w : Move) : Move :=
  { w with rollDue := none, progress := .stopped, quiet := .stopped, validity := .stopped, soak := .stopped }

/-- The record of the circuit of a failed move: ABANDONING, and back on the old path if it had rolled. -/
def abandoned (s : State) (v : Move) (r : Circuit) : Circuit :=
  if (s.circ v.circuit).state = .rolled then
    listening s v.circuit v.dir.oldPath .rollback { r with state := .abandoning }
  else { r with state := .abandoning }

theorem abandoned_state (r : Circuit) : (abandoned s v r).state = .abandoning := by
  unfold abandoned; split <;> rfl

theorem abandoned_cuTx (r : Circuit) : (abandoned s v r).cuTx = r.cuTx := by
  unfold abandoned; split <;> rfl

theorem abandoned_spTx (r : Circuit) : (abandoned s v r).spTx = r.spTx := by
  unfold abandoned; split <;> rfl

theorem abandoned_sel_of_rolled (h : (s.circ v.circuit).state = .rolled) (r : Circuit) :
    (abandoned s v r).sel = v.dir.oldPath := by
  simp [abandoned, h, listening]

/-- The steps of a failure, up to the ABANDON that it makes. -/
theorem failHitless_of_move (f : FaultCode) (h : s.move? m = some v) :
    failHitless m f s =
      failFault v.circuit f (makeRequest m .abandon false
        ((leaveAlign v.circuit (s.modCirc v.circuit (abandoned s v))).modMove m stopMove)) := by
  simp only [failHitless, h]
  by_cases hr : (s.circ v.circuit).state = .rolled
  · have hstate : ((setMoveState v.circuit .abandoning s).circ v.circuit).state.awaitsRoll = false := by
      simp [setMoveState, MoveState.awaitsRoll]
    rw [if_pos hr, selectPath_of_not_awaitsRoll hstate, setMoveState, modCirc_modCirc]
    have habandoned : abandoned s v =
        fun r => listening s v.circuit v.dir.oldPath .rollback { r with state := .abandoning } :=
      funext fun r => if_pos hr
    rw [habandoned]
    rfl
  · have habandoned : abandoned s v = fun r => { r with state := .abandoning } := funext fun r => if_neg hr
    rw [if_neg hr, habandoned]
    rfl

/-- The state in which the ABANDON of a failed move is made still holds the move, and room for its sending. -/
theorem inFlightWith_failing (h : InFlightWith s m v sl) :
    InFlightWith ((leaveAlign v.circuit (s.modCirc v.circuit (abandoned s v))).modMove m stopMove) m (stopMove v) sl := by
  obtain ⟨hpower, hmove, hslot, husable, hroom⟩ := h
  refine ⟨hpower, ?_, hslot, husable, hroom⟩
  rw [move?_modMove_self]
  exact congrArg (Option.map stopMove) hmove

theorem circuits_failFault (c : CircuitId) (f : FaultCode) :
    (failFault c f s).circuits = s.circuits.modify c fun r => { r with lastFault := some f } := by
  simp [failFault, writeFault]

theorem pendingCause_failFault (c : CircuitId) (f : FaultCode) : (failFault c f s).pendingCause .moveFailed := by
  simp [State.pendingCause, failFault]

/-- A failure of the move in slot `m` is what R98 states of it, and reaches no other circuit and move. -/
theorem failHitless_failed (f : FaultCode) (h : InFlightWith s m v sl) :
    OnlyMoveOf s (failHitless m f s) v.circuit m ∧ FailedInto s (failHitless m f s) m v f ∧
      (failHitless m f s).link.outQ = withoutOwned m s.link.outQ ++ [sending m v .abandon false sl] := by
  have hfailing := inFlightWith_failing h
  obtain ⟨-, hmove, -, -, -⟩ := h
  rw [failHitless_of_move f hmove]
  generalize hu : (leaveAlign v.circuit (s.modCirc v.circuit (abandoned s v))).modMove m stopMove = u at hfailing
  generalize ht : failFault v.circuit f (makeRequest m .abandon false u) = t
  have hcircuits : t.circuits =
      s.circuits.modify v.circuit fun r => { abandoned s v r with lastFault := some f } := by
    simp [← ht, ← hu, circuits_failFault, modify_modify]
  have hslots : t.moves.slots = s.moves.slots.modify m
      (Option.map fun w => { stopMove w with request := some (freshRequest s .abandon false) }) := by
    have hmoves : t.moves = (makeRequest m .abandon false u).moves := by simp [← ht]
    rw [hmoves, slots_makeRequest _ _ hfailing, ← hu]
    simp [modify_modify, Option.map_map, Function.comp_def, freshRequest]
  have halign : t.align = (leaveAlign v.circuit (s.modCirc v.circuit (abandoned s v))).align := by simp [← ht, ← hu]
  have hcirc := circ_of_modify hcircuits
  refine ⟨onlyMoveOf_of_modify hcircuits hslots, ⟨?_, ?_, ?_, ?_, ?_, ?_, ?_, ?_, ?_⟩, ?_⟩
  · rw [hcirc]
    exact abandoned_state _
  · rw [hcirc]
  · rw [← ht]
    exact pendingCause_failFault _ _
  · intro hr
    rw [hcirc]
    exact abandoned_sel_of_rolled hr _
  · rw [hcirc]
    exact abandoned_cuTx _
  · rw [hcirc]
    exact abandoned_spTx _
  · rw [move?_of_modify hslots, hmove]
    rfl
  · rw [halign]
    exact not_queued_leaveAlign _ _
  · rw [halign]
    exact not_measured_leaveAlign _ _
  · have hlink : t.link = (makeRequest m .abandon false u).link := by simp [← ht]
    have hqueue : u.link = s.link := by simp [← hu]
    rw [hlink, outQ_makeRequest _ _ hfailing, hqueue]
    rfl

end Failing

/-! A roll (R93) -/

section Rolling

variable {s : State} {m : MoveId} {v : Move} {sl : SlotId}

/-- What the roll of kind `k` leaves for the last result (R93). -/
def rollResult (v : Move) (k : RollKind) : MoveResult :=
  { kind := k.resultKind, lag := if k = .hitless then v.result.map AlignResult.lag else none,
    replay := v.result.elim 0 AlignResult.replay }

/-- The move after its roll: no roll due, its waits over, and the peer progress timer while the peer has not rolled. -/
def rolledMove (made : MoveResult) (w : Move) : Move :=
  { w with
    rollDue := none
    validity := .stopped
    quiet := .stopped
    made := some made
    progress := if w.peerRolled then .stopped else .counting 0 }

/-- The record of a rolled circuit: ROLLED, and listening to the new path at the depth of the result. -/
def rolledCircuit (s : State) (v : Move) (r : Circuit) : Circuit :=
  listening s v.circuit v.dir.newPath .roll
    ({ r with state := .rolled }.setDepth v.dir.newPath (v.result.elim 0 AlignResult.depth))

@[simp] theorem state_setDepth (r : Circuit) (p : Path) (d : Byte) : (r.setDepth p d).state = r.state := by
  cases p <;> rfl

/-- The steps of a roll, up to the ROLLED that it makes. -/
theorem makeRoll_of_move (k : RollKind) (h : s.move? m = some v) :
    makeRoll m k s = makeRequest m .rolled false
      (((leaveAlign v.circuit s).modMove m (rolledMove (rollResult v k))).modCirc v.circuit (rolledCircuit s v)) := by
  have hstart (g : Move → Move) :
      (leaveAlign v.circuit (setMoveState v.circuit .rolled s)).modMove m g =
        ((leaveAlign v.circuit s).modMove m g).modCirc v.circuit fun r => { r with state := .rolled } := rfl
  simp only [makeRoll, h, hstart, modCirc_modCirc]
  rw [selectPath_of_not_awaitsRoll, modCirc_modCirc]
  · rfl
  · simp [MoveState.awaitsRoll]

theorem inFlightWith_rolling (k : RollKind) (h : InFlightWith s m v sl) :
    InFlightWith
      (((leaveAlign v.circuit s).modMove m (rolledMove (rollResult v k))).modCirc v.circuit (rolledCircuit s v))
      m (rolledMove (rollResult v k) v) sl := by
  obtain ⟨hpower, hmove, hslot, husable, hroom⟩ := h
  refine ⟨hpower, ?_, hslot, husable, hroom⟩
  change ((leaveAlign v.circuit s).modMove m _).move? m = _
  rw [move?_modMove_self]
  exact congrArg (Option.map _) hmove

/-- The copper path is lost to a circuit when its line port is unavailable or its trunk is SPAN_ONLY (R69). -/
theorem copperAvail_eq_false_iff {k : TrunkId} :
    s.copperAvail k = false ↔ (s.line.get k).available = false ∨ (s.trunk k).function = .spanOnly := by
  rw [State.copperAvail, Bool.and_eq_false_iff, bne_eq_false_iff_eq]

/-- While the span is usable a rolled circuit is conditioned exactly on a lost copper path (R69 to R71). -/
theorem conditioned_rolledCircuit_iff (husable : s.span.usable = true) (r : Circuit) :
    (rolledCircuit s v r).conditioned = true ↔ v.dir = .toCopper ∧
      ((s.line.get (trunkOf v.circuit)).available = false ∨ (s.trunk (trunkOf v.circuit)).function = .spanOnly) := by
  rw [← copperAvail_eq_false_iff]
  cases hd : v.dir <;> simp [rolledCircuit, listening, State.pathAvail, Dir.newPath, husable, hd]

/-- The call state of a rolled circuit is judged from the backward code of the new path (R63, R64). -/
theorem busy_rolledCircuit_iff (r : Circuit) :
    (rolledCircuit s v r).busy = false ↔ r.fwd.code = (s.trunk (trunkOf v.circuit)).codes.idleOut ∧
      (if v.dir = .toSpan then r.spBack.code else r.cuBack.code) = (s.trunk (trunkOf v.circuit)).codes.idleIn := by
  unfold rolledCircuit listening
  rw [Signalling.callBusy_eq_false_iff]
  cases hd : v.dir <;> simp [Dir.newPath, Circuit.setDepth, backCode]

/-- The fields that a roll changes in the record of its circuit. -/
theorem rolledCircuit_eq (r : Circuit) :
    rolledCircuit s v r = { r with
      state := .rolled
      sel := if v.dir = .toSpan then .span else .copper
      spDepth := if v.dir = .toSpan then v.result.elim 0 AlignResult.depth else r.spDepth
      cuDepth := if v.dir = .toSpan then r.cuDepth else v.result.elim 0 AlignResult.depth
      freeze := some { code := r.heard, endFrame := s.now + BitVec.ofNat 32 (16 * s.params.freezeNow) }
      conditioned := (rolledCircuit s v r).conditioned
      restore := .stopped
      busy := (rolledCircuit s v r).busy } := by
  unfold rolledCircuit
  cases v.dir <;> rfl

/-- The roll of kind `k` leaves what R93 states of it. -/
theorem makeRoll_rolledAs (k : RollKind) (h : InFlightWith s m v sl) : RolledAs s (makeRoll m k s) m v sl k := by
  have hrolling := inFlightWith_rolling k h
  obtain ⟨-, hmove, -, husable, -⟩ := h
  rw [makeRoll_of_move k hmove]
  generalize hu : ((leaveAlign v.circuit s).modMove m (rolledMove (rollResult v k))).modCirc v.circuit
    (rolledCircuit s v) = u at hrolling
  generalize ht : makeRequest m .rolled false u = t
  have hcircuits : t.circuits = s.circuits.modify v.circuit (rolledCircuit s v) := by simp [← ht, ← hu]
  have hslots : t.moves.slots = s.moves.slots.modify m
      (Option.map fun w => { rolledMove (rollResult v k) w with request := some (freshRequest s .rolled false) }) := by
    rw [← ht, slots_makeRequest _ _ hrolling, ← hu]
    simp [modify_modify, Option.map_map, Function.comp_def, freshRequest]
  have halign : t.align = (leaveAlign v.circuit s).align := by simp [← ht, ← hu]
  refine ⟨onlyMoveOf_of_modify hcircuits hslots, ?_, ?_, ?_, ?_, ?_⟩
  · refine ⟨_, _, conditioned_rolledCircuit_iff husable (s.circ v.circuit), busy_rolledCircuit_iff _, ?_⟩
    rw [circ_of_modify hcircuits]
    exact rolledCircuit_eq _
  · rw [move?_of_modify hslots, hmove]
    rfl
  · rw [halign]
    exact not_queued_leaveAlign _ _
  · rw [halign]
    exact not_measured_leaveAlign _ _
  · have hqueue : u.link = s.link := by simp [← hu]
    rw [← ht, outQ_makeRequest _ _ hrolling, hqueue]
    rfl

end Rolling

/-! The alignment timeout (R117) and the quiet test (R126, R92, R105) -/

section Waiting

variable {s : State} {m : MoveId} {v : Move}

theorem failMeasured_of_moveSlot {c : CircuitId} (f : FaultCode) (h : (s.circ c).moveSlot = some m) :
    failMeasured c f s = failHitless m f s := by
  simp [failMeasured, h]

theorem timeOutMeasurement_due {i : CorrId} {x : Measure} (hrec : (s.align.corrs.get i).rec? = some x)
    (hdue : x.timeout.isDue = true) : timeOutMeasurement i s = failMeasured x.circuit .alignTimeout s := by
  simp [timeOutMeasurement, hrec, hdue]

theorem atBoundary_iff {f : Frame} : atBoundary f = true ↔ f.toNat % 16 = 0 := by
  have hmod : f.toNat &&& 15 = f.toNat % 16 := Nat.and_two_pow_sub_one_eq_mod f.toNat 4
  rw [atBoundary, decide_eq_true_iff, ← BitVec.toNat_inj, BitVec.toNat_and]
  change f.toNat &&& 15 = 0 ↔ _
  rw [hmod]

theorem rescueGiven_iff : v.rescueGiven = true ↔ v.rollDue.map RollDue.kind = some .rescue := by
  cases h : v.rollDue <;> simp [Move.rescueGiven, h]

/-- A quiet test is to be made of the move in the frame in course (R126, R105). -/
def testPending (s : State) (v : Move) : Prop :=
  (s.circ v.circuit).state = .rollPending ∧ s.now.toNat % 16 = 0 ∧ v.tested = false ∧
    v.rollDue.map RollDue.kind ≠ some .rescue

theorem testPending_iff :
    ((s.circ v.circuit).state = .rollPending && atBoundary s.now && !v.tested && !v.rescueGiven) = true ↔
      testPending s v := by
  rw [testPending, Ne, ← rescueGiven_iff, ← atBoundary_iff]
  simp [and_assoc]

theorem testQuiet_of_not_pending (h : s.move? m = some v) (hp : ¬ testPending s v) : testQuiet m s = s := by
  simp only [testQuiet, h]
  exact if_neg (mt testPending_iff.mp hp)

theorem testQuiet_of_pending (h : s.move? m = some v) (hp : testPending s v) :
    testQuiet m s =
      if quietBoundary s v then makeRoll m .hitless s else s.modMove m fun w => { w with tested := true } := by
  simp only [testQuiet, h]
  exact if_pos (testPending_iff.mpr hp)

end Waiting

/-- Settles O37: the timeout fails the move whose circuit is measured; a quiet test that is pending makes the roll or marks
the move as tested, by the distinct values of the boundary. -/
theorem alignmentTimeoutAndQuietTest : Obligations.AlignmentTimeoutAndQuietTest := by
  unfold Obligations.AlignmentTimeoutAndQuietTest
  refine ⟨?timeout, ?noTest, ?test⟩
  case timeout =>
    intro s i x m v sl hflight hrec hdue hcircuit hslot
    obtain ⟨hpower, -⟩ := id hflight
    rw [exec_alignmentTimeout_on hpower, timeOutMeasurement_due hrec hdue, ← hcircuit,
      failMeasured_of_moveSlot _ hslot]
    exact ⟨_, rfl, failHitless_failed _ hflight⟩
  case noTest =>
    intro s m v hpower hmove hnot
    have hnone : ¬ testPending s v := by
      rintro ⟨hstate, hboundary, htested, hrescue⟩
      simp [hstate, hboundary, htested, hrescue] at hnot
    rw [exec_quietTest_on hpower, testQuiet_of_not_pending hmove hnone]
  case test =>
    intro s m v sl hflight hstate hboundary htested hrescue old
    have hpending : testPending s v := by
      refine ⟨hstate, hboundary, htested, ?_⟩
      cases hroll : v.rollDue with
      | none => simp
      | some d => simpa using hrescue d hroll
    have hquiet : quietBoundary s v = decide (old.eraseDups.length < s.params.distinct) := rfl
    obtain ⟨hpower, hmove, -⟩ := id hflight
    rw [exec_quietTest_on hpower, testQuiet_of_pending hmove hpending, hquiet]
    constructor
    · intro hloud
      simp [Nat.not_lt.mpr hloud]
    · intro hlt
      exact ⟨_, by simp [hlt], makeRoll_rolledAs .hitless hflight⟩

/-! Frames and marks (R112) -/

section Marks

variable {mark now f : Frame}

theorem toNat_sub_of_sub_le (h : (mark - now).toNat ≤ 16) :
    (now - mark).toNat < 512 ∨ 0xFFFFFFF0 ≤ (now - mark).toNat := by
  bv_omega

/-- A mark not 512 frames old, or of a frame yet to come, restricts the frames before it. -/
theorem atOrAfterMark_of_recent (h : (now - mark).toNat < 512 ∨ (mark - now).toNat ≤ 16) :
    atOrAfterMark mark now f = true ↔ (f - mark).toNat < 2 ^ 31 := by
  have hage : (now - mark).toNat < 512 ∨ 0xFFFFFFF0 ≤ (now - mark).toNat := h.elim .inl toNat_sub_of_sub_le
  have hrestricts : (decide (512 ≤ (now - mark).toNat) && decide ((now - mark).toNat < 0xFFFFFFF0)) = false := by
    rw [Bool.and_eq_false_iff, decide_eq_false_iff_not, decide_eq_false_iff_not]
    omega
  simp only [atOrAfterMark, hrestricts, Bool.false_or, Bool.not_eq_true', BitVec.msb_eq_false_iff_two_mul_lt]
  omega

/-- A mark 512 frames old restricts nothing. -/
theorem atOrAfterMark_of_old (hold : 512 ≤ (now - mark).toNat) (hpast : 16 < (mark - now).toNat) :
    atOrAfterMark mark now f = true := by
  have hage : (now - mark).toNat < 0xFFFFFFF0 := by bv_omega
  simp only [atOrAfterMark, hold, hage, decide_true, Bool.and_self, Bool.true_or]

end Marks

/-! The lags of a window (R121) -/

section Lags

variable {α : Type} {f g : Nat → α} {j n k : Nat}

theorem take_drop_map_range_eq_iff (h : j ≤ k) :
    (((List.range (n + k)).map f).drop j).take n = (List.range n).map g ↔ ∀ i, i < n → f (j + i) = g i := by
  have hlen : ((((List.range (n + k)).map f).drop j).take n).length = n := by
    simp only [List.length_take, List.length_drop, List.length_map, List.length_range]
    omega
  constructor
  · intro heq i hi
    have hplace := congrArg (fun l => l[i]?) heq
    have hin : j + i < n + k := by omega
    simpa only [List.getElem?_take, List.getElem?_drop, List.getElem?_map, List.getElem?_range hin,
      List.getElem?_range hi, if_pos hi, Option.map_some, Option.some.injEq] using hplace
  · intro hall
    refine List.ext_getElem (by simp only [hlen, List.length_map, List.length_range]) fun i hi _ => ?_
    simp only [List.getElem_take, List.getElem_drop, List.getElem_map, List.getElem_range]
    exact hall i (hlen ▸ hi)

variable {old new : List Byte}

theorem mem_matchingLags {lag : Int} :
    lag ∈ matchingLags old new ↔
      -255 ≤ lag ∧ lag ≤ 32 ∧ (new.drop (lag + 255).toNat).take old.length = old := by
  simp only [matchingLags, List.mem_map, List.mem_filter, List.mem_range, decide_eq_true_iff, Int.ofNat_eq_natCast]
  constructor
  · rintro ⟨j, ⟨hj, hold⟩, rfl⟩
    have hplace : ((j : Int) - 255 + 255).toNat = j := by omega
    rw [hplace]
    exact ⟨by omega, by omega, hold⟩
  · rintro ⟨hlow, hhigh, hold⟩
    exact ⟨(lag + 255).toNat, ⟨by omega, hold⟩, by omega⟩

theorem nodup_matchingLags : (matchingLags old new).Nodup := by
  have hinj (a b : Nat) (hne : a ≠ b) : Int.ofNat a - 255 ≠ Int.ofNat b - 255 := by
    simp only [Int.ofNat_eq_natCast]
    omega
  exact List.Pairwise.map _ hinj (List.Pairwise.filter _ List.nodup_range)

/-- The result of a window from the lags that match (R121). -/
def lagsResult : List Int → WindowResult
  | [] => .none
  | [l] => .unique l
  | _ => .multi

variable {l : List Int}

theorem lagsResult_ne_passed : lagsResult l ≠ .passed := by
  rcases l with _ | ⟨a, _ | ⟨b, l⟩⟩ <;> simp [lagsResult]

theorem lagsResult_ne_quiet : lagsResult l ≠ .quiet := by
  rcases l with _ | ⟨a, _ | ⟨b, l⟩⟩ <;> simp [lagsResult]

theorem lagsResult_eq_none_iff : lagsResult l = .none ↔ ∀ a, a ∉ l := by
  rw [← List.eq_nil_iff_forall_not_mem]
  rcases l with _ | ⟨a, _ | ⟨b, l⟩⟩ <;> simp [lagsResult]

theorem lagsResult_eq_unique_iff {a : Int} (h : l.Nodup) :
    lagsResult l = .unique a ↔ a ∈ l ∧ ∀ b, b ∈ l → b = a := by
  rcases l with _ | ⟨c, _ | ⟨d, l⟩⟩
  · simp [lagsResult]
  · simp [lagsResult, eq_comm]
  · have hne : c ≠ d := fun e => (List.nodup_cons.mp h).1 (e ▸ List.mem_cons_self)
    simp only [lagsResult, reduceCtorEq, false_iff]
    rintro ⟨-, hall⟩
    exact hne ((hall c (by simp)).trans (hall d (by simp)).symm)

theorem lagsResult_eq_multi_iff (h : l.Nodup) : lagsResult l = .multi ↔ ∃ a b, a ≠ b ∧ a ∈ l ∧ b ∈ l := by
  rcases l with _ | ⟨c, _ | ⟨d, l⟩⟩
  · simp [lagsResult]
  · simp [lagsResult]
  · have hne : c ≠ d := fun e => (List.nodup_cons.mp h).1 (e ▸ List.mem_cons_self)
    exact iff_of_true rfl ⟨c, d, hne, by simp, by simp⟩

end Lags

/-! The evaluation of a window (R119 to R121) -/

section Evaluation

variable (s : State) (x : Measure)

/-- The first frame of the window, at depth 0 and lag 0. -/
def windowFirst : Frame := x.endFrame - BitVec.ofNat 32 x.window + 1

/-- The octet `i` of the window in the old stream. -/
def oldOctet (i : Nat) : Byte :=
  histOctet s x.circuit x.dir.oldPath (windowFirst x + BitVec.ofNat 32 i - x.oldDepth.setWidth 32)

/-- The octet of the new stream that stands `lag` frames after octet `i` of the window. -/
def newOctet (i : Nat) (lag : Int) : Byte :=
  histOctet s x.circuit x.dir.newPath (windowFirst x + BitVec.ofNat 32 i + BitVec.ofInt 32 lag)

/-- No frame that the window reads lies before the mark of its path (R112). -/
abbrev Whole : Prop :=
  atOrAfterMark (markOf s x.circuit x.dir.oldPath) s.now (windowFirst x - x.oldDepth.setWidth 32) = true ∧
  atOrAfterMark (markOf s x.circuit x.dir.newPath) s.now (windowFirst x - 255) = true

/-- The distinct values of the window's octets of the old stream (R120). -/
def oldValues : Nat := (((List.range x.window).map (oldOctet s x)).eraseDups).length

/-- The new stream repeats the window's octets of the old stream at the lag (R121). -/
def Matching (lag : Int) : Prop :=
  -255 ≤ lag ∧ lag ≤ 32 ∧ ∀ i : Nat, i < x.window → newOctet s x i lag = oldOctet s x i

theorem newFirst_eq : x.newFirst = windowFirst x - 255 := by
  unfold Measure.newFirst windowFirst
  bv_omega

/-- The new stream is read from lag -255 on, so octet `i` at a lag stands `lag + 255` places further. -/
theorem newFirst_add {lag : Int} (h : -255 ≤ lag) (i : Nat) :
    x.newFirst + BitVec.ofNat 32 ((lag + 255).toNat + i) =
      windowFirst x + BitVec.ofNat 32 i + BitVec.ofInt 32 lag := by
  have hplace : BitVec.ofNat 32 (lag + 255).toNat = BitVec.ofInt 32 lag + 255 := by
    rw [← BitVec.ofInt_natCast, Int.toNat_of_nonneg (by omega), BitVec.ofInt_add]
    rfl
  rw [newFirst_eq, BitVec.ofNat_add, hplace]
  generalize windowFirst x = f, BitVec.ofInt 32 lag = l
  bv_omega

theorem histOctets_old : histOctets s x.circuit x.dir.oldPath x.oldFirst x.window =
    (List.range x.window).map (oldOctet s x) := by
  refine List.map_congr_left fun i _ => ?_
  have hframe : x.oldFirst + BitVec.ofNat 32 i =
      windowFirst x + BitVec.ofNat 32 i - x.oldDepth.setWidth 32 := by
    unfold Measure.oldFirst windowFirst
    generalize BitVec.setWidth 32 x.oldDepth = d
    bv_omega
  rw [hframe]
  rfl

/-- The lags that the evaluation finds. -/
def foundLags : List Int :=
  matchingLags ((List.range x.window).map (oldOctet s x))
    (histOctets s x.circuit x.dir.newPath x.newFirst (x.window + 287))

theorem mem_foundLags {lag : Int} : lag ∈ foundLags s x ↔ Matching s x lag := by
  rw [foundLags, mem_matchingLags]
  refine and_congr_right fun hlow => and_congr_right fun hhigh => ?_
  rw [List.length_map, List.length_range, histOctets, take_drop_map_range_eq_iff (by omega)]
  refine forall₂_congr fun i _ => ?_
  rw [newFirst_add x hlow]
  rfl

theorem nodup_foundLags : (foundLags s x).Nodup := nodup_matchingLags

/-- The evaluation asks for whole first, then for values enough, then for the lags that match. -/
theorem evaluate_eq : x.evaluate s =
    if Whole s x then if oldValues s x < x.distinct then .quiet else lagsResult (foundLags s x) else .passed := by
  have hwhole : (atOrAfterMark (markOf s x.circuit x.dir.oldPath) s.now x.oldFirst &&
      atOrAfterMark (markOf s x.circuit x.dir.newPath) s.now x.newFirst) = decide (Whole s x) := by
    rw [newFirst_eq, Bool.decide_and, Bool.decide_eq_true, Bool.decide_eq_true]
    rfl
  simp only [Measure.evaluate, histOctets_old, hwhole, Bool.not_eq_true', decide_eq_false_iff_not, ite_not]
  unfold foundLags
  generalize matchingLags _ _ = l
  rcases l with _ | ⟨a, _ | ⟨b, l⟩⟩ <;> rfl

variable {s x}

theorem evaluate_of_not_whole (h : ¬ Whole s x) : x.evaluate s = .passed := by
  rw [evaluate_eq, if_neg h]

theorem evaluate_of_few (h : Whole s x) (hv : oldValues s x < x.distinct) : x.evaluate s = .quiet := by
  rw [evaluate_eq, if_pos h, if_pos hv]

theorem evaluate_of_enough (h : Whole s x) (hv : ¬ oldValues s x < x.distinct) :
    x.evaluate s = lagsResult (foundLags s x) := by
  rw [evaluate_eq, if_pos h, if_neg hv]

/-- A result that the lags decide is given to a whole window with values enough, and to no other. -/
theorem evaluate_eq_iff_of_lags {r : WindowResult} (hpassed : r ≠ .passed) (hquiet : r ≠ .quiet) :
    x.evaluate s = r ↔ Whole s x ∧ x.distinct ≤ oldValues s x ∧ lagsResult (foundLags s x) = r := by
  rw [← Nat.not_lt]
  by_cases hw : Whole s x
  · by_cases hv : oldValues s x < x.distinct
    · simp [evaluate_of_few hw hv, hquiet.symm, hv]
    · rw [evaluate_of_enough hw hv]
      exact ⟨fun h => ⟨hw, hv, h⟩, fun ⟨_, _, h⟩ => h⟩
  · simp [evaluate_of_not_whole hw, hpassed.symm, hw]

theorem evaluate_eq_passed_iff : x.evaluate s = .passed ↔ ¬ Whole s x := by
  refine ⟨fun h hw => ?_, evaluate_of_not_whole⟩
  by_cases hv : oldValues s x < x.distinct
  · simp [evaluate_of_few hw hv] at h
  · exact lagsResult_ne_passed ((evaluate_of_enough hw hv).symm.trans h)

theorem evaluate_eq_quiet_iff : x.evaluate s = .quiet ↔ Whole s x ∧ oldValues s x < x.distinct := by
  refine ⟨fun h => ?_, fun ⟨hw, hv⟩ => evaluate_of_few hw hv⟩
  have hw : Whole s x := Classical.byContradiction fun hw => by simp [evaluate_of_not_whole hw] at h
  have hv : oldValues s x < x.distinct := Classical.byContradiction fun hv =>
    lagsResult_ne_quiet ((evaluate_of_enough hw hv).symm.trans h)
  exact ⟨hw, hv⟩

theorem evaluate_eq_none_iff :
    x.evaluate s = .none ↔ Whole s x ∧ x.distinct ≤ oldValues s x ∧ ∀ l, ¬ Matching s x l := by
  rw [evaluate_eq_iff_of_lags (by simp) (by simp), lagsResult_eq_none_iff]
  simp only [mem_foundLags]

theorem evaluate_eq_unique_iff (lag : Int) :
    x.evaluate s = .unique lag ↔
      Whole s x ∧ x.distinct ≤ oldValues s x ∧ Matching s x lag ∧ ∀ l, Matching s x l → l = lag := by
  rw [evaluate_eq_iff_of_lags (by simp) (by simp), lagsResult_eq_unique_iff (nodup_foundLags s x)]
  simp only [mem_foundLags]

theorem evaluate_eq_multi_iff :
    x.evaluate s = .multi ↔ Whole s x ∧ x.distinct ≤ oldValues s x ∧
      ∃ l l', l ≠ l' ∧ Matching s x l ∧ Matching s x l' := by
  rw [evaluate_eq_iff_of_lags (by simp) (by simp), lagsResult_eq_multi_iff (nodup_foundLags s x)]
  simp only [mem_foundLags]

end Evaluation

/-! The result of a window on its measurement (R118, R119, R122, R123) -/

section Results

variable {s : State} {i : CorrId} {x y : Measure}

/-- A change of a record that is known is the writing of its new value. -/
theorem modCorr_eq_const (f : Measure → Measure) (h : (s.align.corrs.get i).rec? = some x) :
    s.modCorr i f = s.modCorr i fun _ => f x := by
  simp only [State.modCorr, State.modAlign, Table.modify, h, Option.map_some]

theorem modCorr_modCorr (f g : Measure → Measure) : (s.modCorr i f).modCorr i g = s.modCorr i fun z => g (f z) := by
  simp only [State.modCorr, State.modAlign, modify_modify, Option.map_map, Function.comp_def]

theorem evaluateWindow_of_frame_ne (hrec : (s.align.corrs.get i).rec? = some x) (h : s.now ≠ x.endFrame + 32) :
    evaluateWindow i s = s := by
  simp only [evaluateWindow, hrec, if_neg h]

theorem evaluateWindow_of_frame_eq (hrec : (s.align.corrs.get i).rec? = some x) (h : s.now = x.endFrame + 32) :
    evaluateWindow i s = applyWindow i x (x.evaluate s) s := by
  simp only [evaluateWindow, hrec, if_pos h]

/-- The record of a measurement whose window has been evaluated, its result apart. -/
def counted (z : Measure) : Measure := { z with next := z.next + 1 }

theorem rec?_modCorr_self (f : Measure → Measure) :
    ((s.modCorr i f).align.corrs.get i).rec? = (s.align.corrs.get i).rec?.map f := by
  rw [State.modCorr, modAlign_align, Table.get_modify_self]

/-- A result that leaves a measurement in progress writes its record, as `Measure.after` says. -/
theorem applyWindow_of_after (hrec : (s.align.corrs.get i).rec? = some x) {r : WindowResult} (h : x.after r = some y) :
    applyWindow i x r s = s.modCorr i fun _ => y := by
  cases r with
  | passed | quiet =>
    obtain rfl := Option.some.inj h
    exact modCorr_eq_const counted hrec
  | multi =>
    obtain rfl := Option.some.inj h
    exact (modCorr_modCorr _ _).trans (modCorr_eq_const _ hrec)
  | none =>
    obtain ⟨hstreak, rfl⟩ : x.noneStreak ≠ 7 ∧
        { x with next := x.next + 1, cand := none, noneStreak := x.noneStreak + 1 } = y := by
      simpa [Measure.after] using h
    simp only [applyWindow]
    rw [if_neg (by omega), modCorr_modCorr, modCorr_eq_const _ hrec]
  | unique l =>
    obtain ⟨hcand, rfl⟩ : x.cand ≠ some l ∧
        { x with next := x.next + 1, cand := some l, noneStreak := 0 } = y := by
      simpa [Measure.after] using h
    simp only [applyWindow]
    rw [if_neg hcand, modCorr_modCorr, modCorr_eq_const _ hrec]

/-- The eighth NONE in succession fails the move (R123). -/
theorem applyWindow_eighthNone (h : x.noneStreak = 7) :
    applyWindow i x .none s = failMeasured x.circuit .noMatch (s.modCorr i counted) := by
  simp only [applyWindow, h]
  rfl

/-- The second UNIQUE of one lag confirms it (R122). -/
theorem applyWindow_confirmed {l : Int} (h : x.cand = some l) :
    applyWindow i x (.unique l) s = confirmLag x.circuit l (s.modCorr i counted) := by
  simp only [applyWindow, if_pos h]
  rfl

end Results

/-! A confirmed lag and the wait for the roll (R91, R92, R122, R124) -/

section Confirming

variable {s : State} {m : MoveId} {v : Move}

theorem resultOf_eq (l : Int) :
    resultOf l =
      { lag := l, depth := if l ≤ 0 then BitVec.ofNat 8 (-l).toNat else 0, replay := if l ≤ 0 then 0 else l.toNat } := by
  unfold resultOf
  split
  · rw [← BitVec.ofInt_natCast, Int.toNat_of_nonneg (by omega)]
  · rfl

/-- Circuit `c` off the alignment unit in move state `st`, its move in slot `m` now `w`. -/
def settled (s : State) (m : MoveId) (c : CircuitId) (st : MoveState) (w : Move) : State :=
  ((leaveAlign c s).modCirc c fun r => { r with state := st }).modMove m fun _ => w

section Settled

variable (c : CircuitId) (st : MoveState) (w : Move)

theorem onlyMoveOf_settled : OnlyMoveOf s (settled s m c st w) c m :=
  onlyMoveOf_of_modify (f := fun r => { r with state := st }) (g := Option.map fun _ => w) (by simp [settled])
    (by simp [settled])

theorem state_settled : ((settled s m c st w).circ c).state = st := by
  have hcircuits : (settled s m c st w).circuits = s.circuits.modify c fun r => { r with state := st } := by
    simp [settled]
  rw [circ_of_modify hcircuits]

theorem move?_settled (h : s.move? m = some v) : (settled s m c st w).move? m = some w := by
  rw [settled, move?_modMove_self]
  change (s.move? m).map _ = _
  rw [h]
  rfl

theorem rec?_settled (i : CorrId) :
    ((settled s m c st w).align.corrs.get i).rec? = (s.align.corrs.get i).rec?.filter fun x => x.circuit != c :=
  rec?_leaveAlign s c i

/-- A change of a move that is known is the writing of its new value. -/
theorem modMove_eq_const (f : Move → Move) (h : s.move? m = some v) : s.modMove m f = s.modMove m fun _ => f v := by
  have h' : s.moves.slots.get m = some v := h
  simp only [State.modMove, Table.modify, h', Option.map_some]

theorem modMove_settled (f : Move → Move) (h : s.move? m = some v) :
    (settled s m c st w).modMove m f = settled s m c st (f w) := by
  rw [modMove_eq_const f (move?_settled c st w h)]
  simp only [settled, State.modMove, modify_modify, Option.map_map, Function.comp_def]

theorem setMoveState_settled (st' : MoveState) :
    setMoveState c st' (settled s m c st w) = settled s m c st' w := by
  have hcomm : setMoveState c st' (settled s m c st w) =
      (((leaveAlign c s).modCirc c fun r => { r with state := st }).modCirc c fun r =>
        { r with state := st' }).modMove m fun _ => w := rfl
  rw [hcomm, modCirc_modCirc]
  rfl

end Settled

/-- The move state and the move that a confirmed result leaves (R91, R92): with a roll due the circuit waits for it; else
for its ROLL command under the validity timer, or, by the replay, for the next boundary or for a quiet window. -/
def awaitingRoll (s : State) (v : Move) (r : AlignResult) : MoveState × Move :=
  let w := { v with result := some r }
  if v.rollDue.isSome then (.aligned, w)
  else if (s.info v.circuit).rollOnCommand then (.aligned, { w with validity := .counting 0 })
  else if r.replay ≤ s.params.slew then
    (.aligned, { w with rollDue := some ⟨nextBoundary s.now, .hitless⟩, validity := .stopped })
  else
    (.rollPending,
      { w with validity := .stopped, quiet := if v.quiet = .stopped then .counting 0 else v.quiet, tested := true })

/-- A confirmation leaves the circuit off the alignment unit and waiting for its roll. -/
theorem confirmLag_eq (l : Int) (hmove : s.move? m = some v) (hslot : (s.circ v.circuit).moveSlot = some m) :
    confirmLag v.circuit l s =
      settled s m v.circuit (awaitingRoll s v (resultOf l)).1 (awaitingRoll s v (resultOf l)).2 := by
  have hstart : (setMoveState v.circuit .aligned (leaveAlign v.circuit s)).modMove m
      (fun w => { w with result := some (resultOf l) }) =
        settled s m v.circuit .aligned { v with result := some (resultOf l) } := modMove_eq_const _ hmove
  have hread (st : MoveState) (w : Move) := move?_settled (s := s) (m := m) v.circuit st w hmove
  have hinfo (st : MoveState) (w : Move) (c : CircuitId) : (settled s m v.circuit st w).info c = s.info c := rfl
  have hparams (st : MoveState) (w : Move) : (settled s m v.circuit st w).params = s.params := rfl
  have hnow (st : MoveState) (w : Move) : (settled s m v.circuit st w).now = s.now := rfl
  simp only [confirmLag, hslot, hmove, Option.any_some, hstart, awaitingRoll, awaitRoll, rollDecision, hread, hinfo, hparams,
    hnow, modMove_settled _ _ _ _ hmove, setMoveState_settled]
  split
  · rfl
  · split
    · rfl
    · split <;> rfl

/-- A confirmation of a move without a roll due takes the roll decision, where no ROLL command is waited for. -/
theorem decidedRoll_awaitingRoll {r : AlignResult} (hmove : s.move? m = some v) (hdue : v.rollDue = none)
    (hcommand : (s.info v.circuit).rollOnCommand = false) :
    DecidedRoll s (settled s m v.circuit (awaitingRoll s v r).1 (awaitingRoll s v r).2) m v r := by
  constructor
  · intro hslew
    have hwait : awaitingRoll s v r = (.aligned, { v with
        result := some r, rollDue := some ⟨nextBoundary s.now, .hitless⟩, validity := .stopped }) := by
      simp [awaitingRoll, hdue, hcommand, hslew]
    rw [hwait]
    exact ⟨state_settled _ _ _, _, move?_settled _ _ _ hmove, rfl, rfl, rfl⟩
  · intro hslew
    have hwait : awaitingRoll s v r = (.rollPending, { v with
        result := some r, validity := .stopped, quiet := if v.quiet = .stopped then .counting 0 else v.quiet,
        tested := true }) := by
      simp [awaitingRoll, hdue, hcommand, Nat.not_le.mpr hslew]
    rw [hwait]
    exact ⟨state_settled _ _ _, _, move?_settled _ _ _ hmove, rfl, rfl, rfl, rfl⟩

theorem result_awaitingRoll (r : AlignResult) : (awaitingRoll s v r).2.result = some r := by
  unfold awaitingRoll
  dsimp only
  split
  · rfl
  · split
    · rfl
    · split <;> rfl

theorem awaitingRoll_of_due {r : AlignResult} (h : v.rollDue ≠ none) :
    awaitingRoll s v r = (.aligned, { v with result := some r }) :=
  if_pos (Option.isSome_iff_ne_none.mpr h)

theorem awaitingRoll_of_command {r : AlignResult} (hdue : v.rollDue = none)
    (hcommand : (s.info v.circuit).rollOnCommand = true) :
    awaitingRoll s v r = (.aligned, { v with result := some r, validity := .counting 0 }) := by
  simp [awaitingRoll, hdue, hcommand]

end Confirming

/-- Settles O36: the marks compared by age, the five results by the lags found, and each result on its measurement: one that
leaves it in progress writes the record, the eighth NONE fails the move, the second UNIQUE confirms its lag. -/
theorem windowEvaluated : Obligations.WindowEvaluated := by
  unfold Obligations.WindowEvaluated
  intro endFrame result
  refine ⟨fun mark now f => ⟨atOrAfterMark_of_recent, atOrAfterMark_of_old⟩, fun s x => ?results, ?acted⟩
  case results =>
    exact ⟨evaluate_eq_passed_iff, evaluate_eq_quiet_iff, evaluate_eq_none_iff, evaluate_eq_unique_iff,
      evaluate_eq_multi_iff⟩
  case acted =>
    intro s i x hpower hrec
    rw [exec_windowEvaluation_on hpower]
    refine ⟨fun hframe => ?otherFrame, fun hframe => ?_⟩
    case otherFrame => rw [evaluateWindow_of_frame_ne hrec hframe]
    rw [evaluateWindow_of_frame_eq hrec hframe]
    refine ⟨fun y hafter => ?inProgress, fun m v sl hflight hcircuit hslot _ =>
      ⟨fun hnone hstreak => ?eighthNone, fun l hunique hcand => ?confirmed⟩⟩
    case inProgress =>
      rw [applyWindow_of_after hrec hafter]
      refine ⟨_, rfl, rfl, ?_, fun j hne => Table.get_modify_ne _ _ hne.symm, rfl⟩
      rw [rec?_modCorr_self, hrec]
      rfl
    case eighthNone =>
      have hcounted : InFlightWith (s.modCorr i counted) m v sl := hflight
      have hslot' : ((s.modCorr i counted).circ v.circuit).moveSlot = some m := hslot
      rw [hnone, applyWindow_eighthNone hstreak, ← hcircuit, failMeasured_of_moveSlot _ hslot']
      exact ⟨_, rfl, failHitless_failed .noMatch hcounted⟩
    case confirmed =>
      obtain ⟨-, hmove, -, -, -⟩ := hflight
      have hmove' : (s.modCorr i counted).move? m = some v := hmove
      have hwait : awaitingRoll (s.modCorr i counted) v (resultOf l) = awaitingRoll s v (resultOf l) := rfl
      have hrecorded : result l = resultOf l := (resultOf_eq l).symm
      rw [hunique, applyWindow_confirmed hcand, ← hcircuit, confirmLag_eq l hmove' hslot, hwait, hrecorded]
      refine ⟨_, rfl, onlyMoveOf_settled _ _ _, ?_, ?_, fun hdue => ?_, fun hdue hcommand => ?_, fun hdue hcommand => ?_⟩
      · rw [rec?_settled, rec?_modCorr_self, hrec, hcircuit]
        simp [counted, Option.filter]
      · exact ⟨_, move?_settled _ _ _ hmove', result_awaitingRoll _⟩
      · rw [awaitingRoll_of_due hdue]
        exact ⟨state_settled _ _ _, _, move?_settled _ _ _ hmove', rfl⟩
      · rw [awaitingRoll_of_command hdue hcommand]
        exact ⟨state_settled _ _ _, _, move?_settled _ _ _ hmove', hdue, rfl⟩
      · exact decidedRoll_awaitingRoll (s := s.modCorr i counted) hmove' hdue hcommand

end Sys2Proof.Machine.Alignment

/-! SUPPORT. Coordination with the far-end twin (08): what a notice leaves of the inbound queue, the row of each notice's
kind, the answers and requests that find no move, the ends of moves, and the expiry of a move's timers. -/
namespace Sys2Proof.Machine.Coordination

/-! The inbound queue: what a notice does once it is taken leaves the rest of the queue alone (R155, R156) -/

section Inbound

/-- The inbound queue, and whether a notice has been taken in the frame in course. -/
def inbound (s : State) : List Notice × Bool := (s.link.inQ, s.link.taken)

variable (s : State) (m : MoveId) (c : CircuitId) (v : Move) (n : Notice) (k : ReqKind)

theorem inbound_of_link {s t : State} (h : t.link = s.link) : inbound t = inbound s := by
  rw [inbound, h, inbound]

@[simp] theorem inbound_modCirc (f : Circuit → Circuit) : inbound (s.modCirc c f) = inbound s := rfl
@[simp] theorem inbound_modMove (f : Move → Move) : inbound (s.modMove m f) = inbound s := rfl
@[simp] theorem inbound_raise (x : Cause) : inbound (raise x s) = inbound s := inbound_of_link (by simp)
@[simp] theorem inbound_setMoveState (st : MoveState) : inbound (setMoveState c st s) = inbound s := rfl
@[simp] theorem inbound_leaveAlign : inbound (leaveAlign c s) = inbound s := rfl
@[simp] theorem inbound_selectPath (p : Path) (how : Change) : inbound (selectPath c p how s) = inbound s :=
  inbound_of_link (by simp)
@[simp] theorem inbound_swapPaths (d : Dir) : inbound (swapPaths c d s) = inbound s := inbound_of_link (by simp)
@[simp] theorem inbound_failFault (f : FaultCode) : inbound (failFault c f s) = inbound s := inbound_of_link (by simp)
@[simp] theorem inbound_moveEnded (o : Option Byte) (b : Bool) : inbound (moveEnded o c b s) = inbound s :=
  inbound_of_link (by simp)
@[simp] theorem inbound_enterBridged : inbound (enterBridged m s) = inbound s := inbound_of_link (by simp)
@[simp] theorem inbound_startSoak : inbound (startSoak m s) = inbound s := inbound_of_link (by simp)
@[simp] theorem inbound_recordPeerTag (tag : Word16) : inbound (recordPeerTag m tag s) = inbound s := rfl
@[simp] theorem inbound_undoRequest : inbound (undoRequest v k s) = inbound s := inbound_of_link (by simp)
@[simp] theorem inbound_takeSlot (r : Role) (x : MoveKind) (d : Dir) (p : Option Word16) (o : Option Byte) :
    inbound (takeSlot m c r x d p o s) = inbound s := rfl

/-! What is sent joins the outbound queue, and what a slot owns leaves it -/

@[simp] theorem inbound_offerNotice (o : Option MoveId) : inbound (offerNotice n o s) = inbound s := by
  unfold offerNotice
  split
  · rfl
  · split
    · rfl
    · rw [inbound_raise]
      split <;> rfl

@[simp] theorem inbound_dropOwned : inbound (dropOwned m s) = inbound s := rfl
@[simp] theorem inbound_freeSlot : inbound (freeSlot m s) = inbound s := rfl
@[simp] theorem inbound_endRequest : inbound (endRequest m s) = inbound s := rfl
@[simp] theorem inbound_countStale : inbound (countStale s) = inbound s := rfl
@[simp] theorem inbound_answer : inbound (answer n k s) = inbound s := inbound_offerNotice _ _ _
@[simp] theorem inbound_refuse (r : RefuseReason) : inbound (refuse n r k s) = inbound s := inbound_offerNotice _ _ _

@[simp] theorem inbound_offerRequest (b : Bool) (o : Option MoveId) :
    inbound (offerRequest v k b o s) = inbound s := by
  unfold offerRequest
  split <;> simp

@[simp] theorem inbound_abandonOnce : inbound (abandonOnce v s) = inbound s := inbound_offerRequest _ _ _ _ _

@[simp] theorem inbound_makeRequest (b : Bool) : inbound (makeRequest m k b s) = inbound s := by
  unfold makeRequest
  split <;> simp

/-! Ends of moves -/

@[simp] theorem inbound_endMove (rest : MoveState) (how : Change) (b : Bool) :
    inbound (endMove m rest how b s) = inbound s := by
  unfold endMove
  split
  · rfl
  · dsimp only
    split <;> simp

@[simp] theorem inbound_completeMove (r : MoveResult) : inbound (completeMove m r s) = inbound s := by
  unfold completeMove
  split <;> simp

@[simp] theorem inbound_undoMove (f : FaultCode) (held once : Bool) : inbound (undoMove m f held once s) = inbound s := by
  unfold undoMove
  split
  · rfl
  · cases once <;> simp

@[simp] theorem inbound_failHitless (f : FaultCode) : inbound (failHitless m f s) = inbound s := by
  unfold failHitless
  split
  · rfl
  · dsimp only
    split <;> simp

@[simp] theorem inbound_finishAbandon : inbound (finishAbandon m s) = inbound s := by
  unfold finishAbandon
  split <;> simp

@[simp] theorem inbound_releaseMove : inbound (releaseMove m s) = inbound s := by
  unfold releaseMove
  split
  · rfl
  · split <;> simp

@[simp] theorem inbound_initiatorSwap (b : Bool) : inbound (initiatorSwap m b s) = inbound s := by
  unfold initiatorSwap
  split <;> simp

/-! Answers (R158) -/

@[simp] theorem inbound_blockedAnswered : inbound (blockedAnswered m s) = inbound s := by
  unfold blockedAnswered
  split
  · rfl
  · dsimp only
    split <;> simp

@[simp] theorem inbound_swappedAnswered : inbound (swappedAnswered m s) = inbound s := by
  unfold swappedAnswered
  split <;> simp

@[simp] theorem inbound_bridgedAnswered : inbound (bridgedAnswered m s) = inbound s := by
  simp [bridgedAnswered]

theorem inbound_refusedAnswered (r : RefuseReason) : inbound (refusedAnswered m r k s) = inbound s := by
  cases k <;> simp [refusedAnswered]

theorem inbound_handleAnswer : inbound (handleAnswer n k s) = inbound s := by
  unfold handleAnswer
  split
  · rfl
  · cases k <;> simp [notedAnswered, releasedAnswered, abandonedAnswered]

theorem inbound_handleRefuse (r : RefuseReason) : inbound (handleRefuse n r k s) = inbound s := by
  unfold handleRefuse
  split
  · rfl
  · exact inbound_refusedAnswered _ _ _ _

/-! Requests at a rest state and in flight (R159 to R164) -/

@[simp] theorem inbound_acceptBlock : inbound (acceptBlock m c n s) = inbound s := by
  simp [acceptBlock]

@[simp] theorem inbound_acceptBridge : inbound (acceptBridge m c n s) = inbound s := by
  simp [acceptBridge]

theorem inbound_blockAtRest : inbound (blockAtRest n c s) = inbound s := by
  unfold blockAtRest
  split
  · rfl
  · repeat' split
    all_goals simp

theorem inbound_bridgeAtRest : inbound (bridgeAtRest n c s) = inbound s := by
  unfold bridgeAtRest
  split
  · rfl
  · split <;> simp

theorem inbound_swapAtRest : inbound (swapAtRest n c s) = inbound s := by
  unfold swapAtRest
  repeat' split
  all_goals simp

theorem inbound_requestAtRest : inbound (requestAtRest n k c s) = inbound s := by
  cases k with
  | swap => exact inbound_swapAtRest _ _ _
  | abandon => exact inbound_answer _ _ _
  | block | bridge | rolled | release =>
    unfold requestAtRest
    dsimp only
    split <;> simp [inbound_blockAtRest, inbound_bridgeAtRest]

theorem inbound_rolledInFlight : inbound (rolledInFlight m v n s) = inbound s := by
  unfold rolledInFlight
  dsimp only
  split <;> simp

theorem inbound_swapInBlocking : inbound (swapInBlocking m v n s) = inbound s := by
  unfold swapInBlocking
  split <;> simp

theorem inbound_retire (own : ReqKind) : inbound (retire m v own n k s) = inbound s := by
  unfold retire
  cases k with
  | bridge => simp
  | block | swap | rolled | release | abandon =>
    dsimp only
    split <;> simp

theorem inbound_crossing : inbound (crossing m v n k s) = inbound s := by
  unfold crossing
  dsimp only
  split
  · simp
  split
  · simp
  split
  · simp
  repeat' split
  all_goals simp [inbound_retire]

theorem inbound_abandonInFlight : inbound (abandonInFlight m v n s) = inbound s := by
  unfold abandonInFlight
  dsimp only
  repeat' split
  all_goals simp

theorem inbound_requestInFlight : inbound (requestInFlight m v n k s) = inbound s := by
  unfold requestInFlight
  cases k with
  | abandon => exact inbound_abandonInFlight _ _ _ _
  | block | swap | bridge | rolled | release =>
    dsimp only
    repeat' split
    all_goals simp [inbound_crossing, inbound_rolledInFlight, inbound_swapInBlocking]

theorem inbound_handleRequest : inbound (handleRequest n k s) = inbound s := by
  unfold handleRequest
  repeat' split
  all_goals simp [inbound_requestAtRest, inbound_requestInFlight]

/-- Whatever a notice does, it takes no other and gives no leave to take one. -/
theorem inbound_handleNotice : inbound (handleNotice n s) = inbound s := by
  unfold handleNotice
  split
  · exact inbound_handleRequest _ _ _
  · exact inbound_handleAnswer _ _ _
  · exact inbound_handleRefuse _ _ _ _

end Inbound

/-! The head of the inbound queue (R156) -/

section Head

variable {s : State} {n : Notice} {p : Notice → Bool}

/-- The state in which the head notice is handled: it is off the queue, and no other is taken in the frame. -/
def headTaken (s : State) : State :=
  judgeHoldOff (s.modLink fun l => { l with inQ := l.inQ.tail, taken := true })

theorem inbound_headTaken (s : State) : inbound (headTaken s) = (s.link.inQ.tail, true) := rfl

/-- A notice taken is off the queue, and the frame's one. -/
theorem inbound_handleNotice_headTaken : inbound (handleNotice n (headTaken s)) = (s.link.inQ.tail, true) :=
  inbound_handleNotice _ _

theorem takeNotice_of_head (hhead : s.link.inQ.head? = some n) (htaken : s.link.taken = false) (hp : p n = true) :
    takeNotice p s = handleNotice n (headTaken s) := by
  obtain ⟨rest, hqueue⟩ := List.head?_eq_some_iff.mp hhead
  simp [takeNotice, headTaken, State.modLink, hqueue, htaken, hp]

theorem takeNotice_of_other (hhead : s.link.inQ.head? = some n) (hp : p n = false) : takeNotice p s = s := by
  obtain ⟨rest, hqueue⟩ := List.head?_eq_some_iff.mp hhead
  simp [takeNotice, hqueue, hp]

theorem takeNotice_of_idle (h : s.link.inQ = [] ∨ s.link.taken = true) : takeNotice p s = s := by
  unfold takeNotice
  split
  · rfl
  · next hqueue =>
    have htaken : s.link.taken = true := h.resolve_left (by simp [hqueue])
    simp [htaken]

end Head

/-! The rows and the kinds of notices -/

section Rows

/-- A notice row takes the head exactly when it is the row of the head's kind. -/
theorem exec_noticeRow {row : Instr} (h : row ∈ noticeRows) (s : State) :
    exec row s = whenPowered s (takeNotice fun n => decide (rowOf n = row)) := by
  have hrow (p : Notice → Bool) (hp : ∀ n, p n = decide (rowOf n = row)) :
      whenPowered s (takeNotice p) = whenPowered s (takeNotice fun n => decide (rowOf n = row)) := by
    rw [funext hp]
  simp only [noticeRows, List.mem_cons, List.not_mem_nil, or_false] at h
  rcases h with rfl | rfl | rfl | rfl | rfl | rfl | rfl | rfl | rfl | rfl | rfl | rfl | rfl | rfl
  all_goals
    refine hrow _ fun n => ?_
    obtain ⟨kind, dir, force, slot, tag⟩ := n
    cases kind with
    | req k => cases k <;> cases force <;> rfl
    | ans k => cases k <;> rfl
    | refuse r k => rfl

theorem rowOf_mem_noticeRows (n : Notice) : rowOf n ∈ noticeRows := by
  unfold rowOf
  repeat' split
  all_goals simp [noticeRows]

theorem exec_noticeTaken_on {s : State} (h : s.dev.powered = true) :
    exec .noticeTaken s = .next (takeNotice (fun _ => true) s) := Alignment.whenPowered_on h _

/-- On a powered device a notice row takes the head exactly when it is the row of the head's kind. -/
theorem exec_noticeRow_on {row : Instr} {s : State} (h : s.dev.powered = true) (hrow : row ∈ noticeRows) :
    exec row s = .next (takeNotice (fun n => decide (rowOf n = row)) s) := by
  rw [exec_noticeRow hrow, Alignment.whenPowered_on h]

end Rows

/-- Settles O23: NOTICE_TAKEN and the head's row both hand the head to the move controller, which leaves the inbound queue
alone; every other row waits, and with nothing to take so do all. -/
theorem noticeRowsTakeTheHead : Obligations.NoticeRowsTakeTheHead := by
  unfold Obligations.NoticeRowsTakeTheHead
  intro s hpower
  refine ⟨fun n hhead htaken => ⟨?taken, fun row hrow hne => ?other⟩, fun hidle row hrow => ?idle⟩
  case taken =>
    obtain ⟨hqueue, hfirst⟩ := Prod.mk.inj (inbound_handleNotice_headTaken (s := s) (n := n))
    refine ⟨handleNotice n (headTaken s), ?_, ?_, hqueue, hfirst⟩
    · rw [exec_noticeTaken_on hpower, takeNotice_of_head hhead htaken rfl]
    · rw [exec_noticeRow_on hpower (rowOf_mem_noticeRows n), takeNotice_of_head hhead htaken (decide_eq_true rfl)]
  case other =>
    rw [exec_noticeRow_on hpower hrow, takeNotice_of_other hhead (decide_eq_false hne.symm)]
  case idle =>
    rcases List.mem_cons.mp hrow with rfl | hrow
    · rw [exec_noticeTaken_on hpower, takeNotice_of_idle hidle]
    · rw [exec_noticeRow_on hpower hrow, takeNotice_of_idle hidle]

/-! Answers and requests that find no move (R158, R159) -/

section Unmatched

variable {s : State} {n : Notice} {k : ReqKind}

theorem exec_noticeTaken_head (h : NoticeAtHead s n) : exec .noticeTaken s = .next (handleNotice n (headTaken s)) := by
  obtain ⟨hpower, -, htaken, hhead, -⟩ := h
  rw [exec_noticeTaken_on hpower, takeNotice_of_head hhead htaken rfl]

/-- A head handled without a change of circuits and moves is only taken. -/
theorem takenOnly_of_handled {t : State} (h : NoticeAtHead s n) (ht : handleNotice n (headTaken s) = t)
    (hc : t.circuits = s.circuits) (hm : t.moves = s.moves) : exec .noticeTaken s = .next t ∧ TakenOnly s t := by
  obtain ⟨hqueue, hfirst⟩ := Prod.mk.inj (inbound_handleNotice_headTaken (s := s) (n := n))
  subst ht
  exact ⟨exec_noticeTaken_head h, hqueue, hfirst, hc, hm⟩

theorem outQ_answer_room (hu : s.span.usable = true) (h : s.link.outQ.length < outboundSize) :
    (answer n k s).link.outQ = s.link.outQ ++ [⟨answerTo n k, none⟩] := by
  rw [answer, offerNotice_room _ _ _ hu h]
  rfl

theorem outQ_refuse_room (r : RefuseReason) (hu : s.span.usable = true) (h : s.link.outQ.length < outboundSize) :
    (refuse n r k s).link.outQ = s.link.outQ ++ [⟨refusalOf n r k, none⟩] := by
  rw [refuse, offerNotice_room _ _ _ hu h]
  rfl

/-- A notice that is only counted as stale changes no circuit and no move, and nothing is sent. -/
theorem taken_stale (h : NoticeAtHead s n) (ht : handleNotice n (headTaken s) = countStale (headTaken s)) :
    ∃ t, exec .noticeTaken s = .next t ∧ TakenOnly s t ∧ t.link.outQ = s.link.outQ ∧
      t.link.stale = bump s.link.stale := by
  obtain ⟨hexec, honly⟩ := takenOnly_of_handled h ht rfl rfl
  exact ⟨_, hexec, honly, rfl, rfl⟩

/-- A notice that is only answered changes no circuit and no move. -/
theorem taken_answered (h : NoticeAtHead s n) (ht : handleNotice n (headTaken s) = answer n k (headTaken s)) :
    ∃ t, exec .noticeTaken s = .next t ∧ TakenOnly s t ∧ t.link.outQ = s.link.outQ ++ [⟨answerTo n k, none⟩] := by
  obtain ⟨hexec, honly⟩ := takenOnly_of_handled h ht (by simp [headTaken]) (by simp [headTaken])
  obtain ⟨-, husable, -, -, hroom⟩ := h
  exact ⟨_, hexec, honly, outQ_answer_room (s := headTaken s) husable hroom⟩

/-- A notice that is only refused changes no circuit and no move. -/
theorem taken_refused {r : RefuseReason} (h : NoticeAtHead s n)
    (ht : handleNotice n (headTaken s) = refuse n r k (headTaken s)) :
    ∃ t, exec .noticeTaken s = .next t ∧ TakenOnly s t ∧ t.link.outQ = s.link.outQ ++ [⟨refusalOf n r k, none⟩] := by
  obtain ⟨hexec, honly⟩ := takenOnly_of_handled h ht (by simp [headTaken]) (by simp [headTaken])
  obtain ⟨-, husable, -, -, hroom⟩ := h
  exact ⟨_, hexec, honly, outQ_refuse_room (s := headTaken s) r husable hroom⟩

theorem handleNotice_unmatchedAnswer (hn : n.kind = .ans k) (h : matchSlot s n k = none) :
    handleNotice n s = countStale s := by
  simp [handleNotice, hn, handleAnswer, h]

theorem handleNotice_unmatchedRefuse {r : RefuseReason} (hn : n.kind = .refuse r k) (h : matchSlot s n k = none) :
    handleNotice n s = countStale s := by
  simp [handleNotice, hn, handleRefuse, h]

theorem handleNotice_unmapped (hn : n.kind = .req k) (h : s.map.directory.get n.slot = none) :
    handleNotice n s = if k = .abandon then answer n .abandon s else refuse n .unmapped k s := by
  simp [handleNotice, hn, handleRequest, h]

theorem handleNotice_otherDirection {c : CircuitId} {m : MoveId} {v : Move} (hn : n.kind = .req k) (hk : k ≠ .abandon)
    (hslot : s.map.directory.get n.slot = some c) (hc : (s.circ c).moveSlot = some m) (hm : s.move? m = some v)
    (hdir : v.dir ≠ n.dir) : handleNotice n s = refuse n .direction k s := by
  simp [handleNotice, hn, handleRequest, hslot, hc, hm, hk, hdir]

end Unmatched

/-- Settles O31: each notice is handled as stale, answered or refused in the state in which the head is off the queue, which
holds the same circuits, moves and map. -/
theorem staleUnmappedAndDirection : Obligations.StaleUnmappedAndDirection := by
  unfold Obligations.StaleUnmappedAndDirection
  intro s n hhead
  refine ⟨fun k hn hnone => ?answer, fun r k hn hnone => ?refusal, fun k hn hnone => ?unmapped,
    fun k c m v hn hk hslot hc hm hdir => ?direction⟩
  case answer => exact taken_stale hhead (handleNotice_unmatchedAnswer hn hnone)
  case refusal => exact taken_stale hhead (handleNotice_unmatchedRefuse hn hnone)
  case unmapped =>
    have hhandled := handleNotice_unmapped (s := headTaken s) hn hnone
    by_cases hk : k = .abandon
    · rw [if_pos hk] at hhandled ⊢
      exact taken_answered hhead hhandled
    · rw [if_neg hk] at hhandled ⊢
      exact taken_refused hhead hhandled
  case direction => exact taken_refused hhead (handleNotice_otherDirection hn hk hslot hc hm hdir)

/-! One circuit and one move slot (R77) -/

section Only

variable {s t u : State} {c : CircuitId} {m : MoveId}

theorem onlyMoveOf_of_slots {g : Option Move → Option Move} (hc : t.circuits = s.circuits)
    (hm : t.moves.slots = s.moves.slots.modify m g) : OnlyMoveOf s t c m := by
  refine ⟨fun c' _ => by rw [State.circ, hc, State.circ], fun m' hne => ?_⟩
  rw [State.move?, hm, Table.get_modify_ne _ _ hne.symm, State.move?]

theorem onlyMoveOf_modMove (h : OnlyMoveOf s t c m) (f : Move → Move) : OnlyMoveOf s (t.modMove m f) c m := by
  obtain ⟨hcircuits, hmoves⟩ := h
  refine ⟨hcircuits, fun m' hne => ?_⟩
  rw [← hmoves m' hne]
  exact Table.get_modify_ne _ _ hne.symm

theorem onlyMoveOf_trans (h : OnlyMoveOf s t c m) (h' : OnlyMoveOf t u c m) : OnlyMoveOf s u c m := by
  obtain ⟨hcircuits, hmoves⟩ := h
  obtain ⟨hcircuits', hmoves'⟩ := h'
  exact ⟨fun c' hne => (hcircuits' c' hne).trans (hcircuits c' hne), fun m' hne => (hmoves' m' hne).trans (hmoves m' hne)⟩

theorem modCirc_congr {f g : Circuit → Circuit} (h : f (s.circ c) = g (s.circ c)) : s.modCirc c f = s.modCirc c g := by
  have h' : f (s.circuits.get c) = g (s.circuits.get c) := h
  simp only [State.modCirc, Table.modify, h']

end Only

/-! The outbound queue without what a slot owns (R151) -/

section Owned

variable (m : MoveId) (q : List OutNotice)

@[simp] theorem withoutOwned_withoutOwned : withoutOwned m (withoutOwned m q) = withoutOwned m q := by
  simp [withoutOwned]

end Owned

/-! The end of a move at a rest state (R77, R79, R101) -/

section Ending

variable {s : State} {m : MoveId} {v : Move} {rest : MoveState} {how : Change} {r : Circuit}

/-- The record of a circuit at a rest state without a move, the receive path apart. -/
def resting (rest : MoveState) (r : Circuit) : Circuit :=
  { r with
    state := rest
    dir := none
    moveSlot := none
    cuTx := rest.restPath = .copper
    spTx := rest.restPath = .span }

/-- The state in which a circuit has left its move slot and the alignment unit for a rest state, its receive path not yet
selected. -/
def departed (m : MoveId) (c : CircuitId) (rest : MoveState) (s : State) : State :=
  (leaveAlign c (freeSlot m s)).modCirc c (resting rest)

theorem circ_departed (c : CircuitId) : (departed m c rest s).circ c = resting rest (s.circ c) :=
  Alignment.circ_modCirc_self _ _ _

/-- The record of a circuit that stands at a rest state on its path. -/
def settledAt (s : State) (c : CircuitId) (rest : MoveState) (how : Change) (r : Circuit) : Circuit :=
  if r.sel = rest.restPath then (resting rest r).clearUnselected
  else (Alignment.listening s c rest.restPath how (resting rest r)).clearUnselected

/-- The order unit, told of the end of a move, takes the order from the circuit's record (R143). -/
def withoutOrder (o : Option Byte) (r : Circuit) : Circuit := { r with order := if o.isSome then none else r.order }

/-- The record of a circuit whose move has ended at a rest state. -/
def ended (s : State) (v : Move) (rest : MoveState) (how : Change) (r : Circuit) : Circuit :=
  withoutOrder v.order (settledAt s v.circuit rest how r)

theorem restsAt_settledAt {c : CircuitId} : (settledAt s c rest how r).restsAt rest := by
  unfold settledAt
  split
  · next h => cases hp : rest.restPath <;> simp [Circuit.restsAt, Circuit.clearUnselected, resting, h, hp]
  · cases hp : rest.restPath <;> simp [Circuit.restsAt, Circuit.clearUnselected, Alignment.listening, resting, hp]

theorem restsAt_ended : (ended s v rest how r).restsAt rest := restsAt_settledAt (s := s) (c := v.circuit)

theorem blocked_clearUnselected (r : Circuit) : r.clearUnselected.blocked = r.blocked := by
  unfold Circuit.clearUnselected
  split <;> rfl

theorem lastFault_clearUnselected (r : Circuit) : r.clearUnselected.lastFault = r.lastFault := by
  unfold Circuit.clearUnselected
  split <;> rfl

theorem blocked_ended : (ended s v rest how r).blocked = r.blocked := by
  change (settledAt s v.circuit rest how r).blocked = r.blocked
  unfold settledAt
  split <;> exact blocked_clearUnselected _

theorem lastFault_ended : (ended s v rest how r).lastFault = r.lastFault := by
  change (settledAt s v.circuit rest how r).lastFault = r.lastFault
  unfold settledAt
  split <;> exact lastFault_clearUnselected _

theorem circuits_moveEnded (o : Option Byte) (c : CircuitId) (done : Bool) (s : State) :
    (moveEnded o c done s).circuits = (s.modCirc c (withoutOrder o)).circuits := by
  cases o with
  | none => rw [Alignment.modCirc_eq_self s (c := c) (f := withoutOrder none) rfl]; rfl
  | some x =>
    simp only [moveEnded, frame_judgeOrder, frame_setEntry]
    rfl

/-- The steps of an end: slot and alignment unit left, the paths of the rest state, and the order unit told. -/
theorem endMove_of_move (done : Bool) (hmove : s.move? m = some v) (hrest : rest.awaitsRoll = false) :
    endMove m rest how done s =
      moveEnded v.order v.circuit done
        ((leaveAlign v.circuit (freeSlot m s)).modCirc v.circuit (settledAt s v.circuit rest how)) := by
  have hend : endMove m rest how done s = moveEnded v.order v.circuit done
      ((if ((departed m v.circuit rest s).circ v.circuit).sel = rest.restPath then departed m v.circuit rest s
        else selectPath v.circuit rest.restPath how (departed m v.circuit rest s)).modCirc
          v.circuit Circuit.clearUnselected) := by
    simp only [endMove, hmove]
    rfl
  have hstate : ((departed m v.circuit rest s).circ v.circuit).state.awaitsRoll = false := by
    rw [circ_departed]
    exact hrest
  have hsel : ((departed m v.circuit rest s).circ v.circuit).sel = (s.circ v.circuit).sel := by
    rw [circ_departed]
    rfl
  rw [hend, Alignment.selectPath_of_not_awaitsRoll hstate, hsel, departed]
  congr 1
  by_cases h : (s.circ v.circuit).sel = rest.restPath
  · rw [if_pos h, Alignment.modCirc_modCirc]
    exact modCirc_congr (if_pos h).symm
  · rw [if_neg h, Alignment.modCirc_modCirc, Alignment.modCirc_modCirc]
    exact modCirc_congr (if_neg h).symm

theorem circuits_endMove (done : Bool) (hmove : s.move? m = some v) (hrest : rest.awaitsRoll = false) :
    (endMove m rest how done s).circuits = s.circuits.modify v.circuit (ended s v rest how) := by
  rw [endMove_of_move done hmove hrest, circuits_moveEnded, Alignment.modCirc_modCirc]
  rfl

theorem slots_endMove (done : Bool) (hmove : s.move? m = some v) (hrest : rest.awaitsRoll = false) :
    (endMove m rest how done s).moves.slots = s.moves.slots.modify m fun _ => none := by
  rw [endMove_of_move done hmove hrest]
  simp only [frame_moveEnded]
  rfl

theorem outQ_endMove (done : Bool) (hmove : s.move? m = some v) (hrest : rest.awaitsRoll = false) :
    (endMove m rest how done s).link.outQ = withoutOwned m s.link.outQ := by
  rw [endMove_of_move done hmove hrest]
  simp only [frame_moveEnded]
  rfl

theorem awaitsRoll_startRest (d : Dir) : d.startRest.awaitsRoll = false := by cases d <;> rfl

theorem awaitsRoll_targetRest (d : Dir) : d.targetRest.awaitsRoll = false := by cases d <;> rfl

/-- The end of an abandon: the starting rest state, and the fault stands (R99). -/
theorem finishAbandon_finished (hmove : s.move? m = some v) :
    OnlyMoveOf s (finishAbandon m s) v.circuit m ∧ (finishAbandon m s).move? m = none ∧
      ((finishAbandon m s).circ v.circuit).restsAt v.dir.startRest ∧
      ((finishAbandon m s).circ v.circuit).lastFault = (s.circ v.circuit).lastFault ∧
      (finishAbandon m s).link.outQ = withoutOwned m s.link.outQ := by
  have hend : finishAbandon m s = endMove m v.dir.startRest .other false s := by simp only [finishAbandon, hmove]
  have hrest := awaitsRoll_startRest v.dir
  have hcircuits := circuits_endMove (how := .other) false hmove hrest
  have hslots := slots_endMove (how := .other) false hmove hrest
  rw [hend, Alignment.circ_of_modify hcircuits, Alignment.move?_of_modify hslots]
  exact ⟨Alignment.onlyMoveOf_of_modify hcircuits hslots, rfl, restsAt_ended, lastFault_ended,
    outQ_endMove false hmove hrest⟩

/-- A completed move rests at its target with its last result (R101). -/
theorem completeMove_completed (x : MoveResult) (hmove : s.move? m = some v) :
    OnlyMoveOf s (completeMove m x s) v.circuit m ∧ (completeMove m x s).move? m = none ∧
      ((completeMove m x s).circ v.circuit).restsAt v.dir.targetRest ∧
      ((completeMove m x s).circ v.circuit).lastResult = some x ∧
      (completeMove m x s).link.outQ = withoutOwned m s.link.outQ := by
  have hend : completeMove m x s =
      (endMove m v.dir.targetRest .other true s).modCirc v.circuit fun r => { r with lastResult := some x } := by
    simp only [completeMove, hmove]
  have hrest := awaitsRoll_targetRest v.dir
  have hcircuits : (completeMove m x s).circuits = s.circuits.modify v.circuit fun r =>
      { ended s v v.dir.targetRest .other r with lastResult := some x } := by
    rw [hend, modCirc_circuits, circuits_endMove true hmove hrest, MapLoading.modify_modify]
  have hslots : (completeMove m x s).moves.slots = s.moves.slots.modify m fun _ => none := by
    rw [hend, modCirc_moves, slots_endMove true hmove hrest]
  rw [Alignment.circ_of_modify hcircuits, Alignment.move?_of_modify hslots]
  refine ⟨Alignment.onlyMoveOf_of_modify hcircuits hslots, rfl, restsAt_ended (s := s) (v := v), rfl, ?_⟩
  rw [hend, modCirc_link, outQ_endMove true hmove hrest]

/-- What an undoing sends: a single ABANDON, owned by no slot, where the rule asks for one (R85 to R87). -/
def singleAbandon (m : MoveId) (v : Move) (sl : SlotId) (once : Bool) : List OutNotice :=
  if once then [{ sending m v .abandon false sl with owner := none }] else []

/-- The steps of an undoing, its single ABANDON sent first. -/
theorem undoMove_of_inFlight {sl : SlotId} (f : FaultCode) (held once : Bool) (h : InFlightWith s m v sl) :
    undoMove m f held once s =
      failFault v.circuit f (endMove m v.dir.startRest .other false
        ((s.modLink fun l => { l with outQ := l.outQ ++ singleAbandon m v sl once }).modCirc v.circuit fun r =>
          { r with blocked := held })) := by
  obtain ⟨-, hmove, hslot, husable, hroom⟩ := h
  simp only [undoMove, hmove]
  cases once with
  | true =>
    rw [if_pos rfl, abandonOnce, Alignment.offerRequest_of_slot (m := m) _ _ hslot, offerNotice_room _ _ _ husable hroom]
    rfl
  | false =>
    have hself : (s.modLink fun l => { l with outQ := l.outQ ++ singleAbandon m v sl false }) = s := by
      simp [singleAbandon, State.modLink]
    rw [hself]
    rfl

theorem withoutOwned_append_singleAbandon {sl : SlotId} (once : Bool) (q : List OutNotice) :
    withoutOwned m (q ++ singleAbandon m v sl once) = withoutOwned m q ++ singleAbandon m v sl once := by
  cases once <;> simp [withoutOwned, singleAbandon]

/-- The move of slot `m` has ended at its starting rest state with a fault, its block cleared or held, and `q` waits to be
sent. -/
def Undone (t : State) (m : MoveId) (v : Move) (f : FaultCode) (held : Bool) (q : List OutNotice) : Prop :=
  t.move? m = none ∧ (t.circ v.circuit).restsAt v.dir.startRest ∧ (t.circ v.circuit).blocked = held ∧
    (t.circ v.circuit).lastFault = some f ∧ t.pendingCause .moveFailed ∧ t.link.outQ = q

/-- An undoing ends the move at its starting rest state (R84 to R87, R101), and reaches no other circuit and move. -/
theorem undoMove_undone {sl : SlotId} (f : FaultCode) (held once : Bool) (h : InFlightWith s m v sl) :
    OnlyMoveOf s (undoMove m f held once s) v.circuit m ∧
      Undone (undoMove m f held once s) m v f held (withoutOwned m s.link.outQ ++ singleAbandon m v sl once) := by
  have hundo := undoMove_of_inFlight f held once h
  obtain ⟨-, hmove, -⟩ := h
  generalize hu : ((s.modLink fun l => { l with outQ := l.outQ ++ singleAbandon m v sl once }).modCirc v.circuit fun r =>
    { r with blocked := held }) = u at hundo
  have hmove' : u.move? m = some v := by rw [← hu]; exact hmove
  have hrest := awaitsRoll_startRest v.dir
  have hcircuits : (undoMove m f held once s).circuits = s.circuits.modify v.circuit fun r =>
      { ended u v v.dir.startRest .other { r with blocked := held } with lastFault := some f } := by
    rw [hundo, Alignment.circuits_failFault, circuits_endMove false hmove' hrest, MapLoading.modify_modify, ← hu,
      modCirc_circuits, modLink_circuits, MapLoading.modify_modify]
  have hslots : (undoMove m f held once s).moves.slots = s.moves.slots.modify m fun _ => none := by
    rw [hundo]
    simp only [frame_failFault]
    rw [slots_endMove false hmove' hrest, ← hu]
    rfl
  refine ⟨Alignment.onlyMoveOf_of_modify hcircuits hslots, Alignment.move?_of_modify hslots, ?_, ?_, ?_, ?_, ?_⟩
  · rw [Alignment.circ_of_modify hcircuits]
    exact restsAt_ended (s := u) (v := v)
  · rw [Alignment.circ_of_modify hcircuits]
    exact blocked_ended
  · rw [Alignment.circ_of_modify hcircuits]
  · rw [hundo]
    exact Alignment.pendingCause_failFault _ _
  · rw [hundo]
    simp only [frame_failFault]
    rw [outQ_endMove false hmove' hrest, ← hu]
    exact withoutOwned_append_singleAbandon once _

end Ending

/-! The repeat timer (R153) -/

section Repeating

variable {s : State} {m : MoveId} {v : Move} {sl : SlotId} {q : Request}

theorem repeatRequest_of_due (hmove : s.move? m = some v) (hreq : v.request = some q) (hdue : q.timer.isDue = true) :
    repeatRequest m s =
      if q.tries = 0 then exhaustTries m q.kind s
      else if sendingQueued m s then
        s.modMove m fun w => { w with request := some { q with timer := .counting 0 } }
      else
        offerRequest v q.kind q.force (some m) (s.modMove m fun w =>
          { w with request := some { q with tries := q.tries - 1, timer := .counting 0 } }) := by
  simp [repeatRequest, hmove, hreq, hdue]

/-- A sending of the request, offered on a usable span with room, joins the queue's tail. -/
theorem offerRequest_room (k : ReqKind) (b : Bool) (f : Move → Move) (h : InFlightWith s m v sl) :
    offerRequest v k b (some m) (s.modMove m f) =
      (s.modMove m f).modLink fun l => { l with outQ := l.outQ ++ [sending m v k b sl] } := by
  obtain ⟨-, -, hslot, husable, hroom⟩ := h
  rw [Alignment.offerRequest_of_slot (s := s.modMove m f) (m := m) k b hslot]
  exact offerNotice_room _ _ _ husable hroom

theorem move?_endRequest (h : s.move? m = some v) : (endRequest m s).move? m = some { v with request := none } := by
  rw [endRequest, Alignment.move?_modMove_self]
  exact congrArg (Option.map _) h

/-- With its request ended a move is still in flight, with room for a sending. -/
theorem inFlightWith_endRequest (h : InFlightWith s m v sl) :
    InFlightWith (endRequest m s) m { v with request := none } sl := by
  obtain ⟨hpower, hmove, hslot, husable, hroom⟩ := h
  exact ⟨hpower, move?_endRequest hmove, hslot, husable, Nat.lt_of_le_of_lt (List.length_filter_le _ _) hroom⟩

theorem onlyMoveOf_endRequest (c : CircuitId) : OnlyMoveOf s (endRequest m s) c m :=
  onlyMoveOf_of_slots (g := Option.map fun w => { w with request := none }) rfl rfl

theorem outQ_endRequest : (endRequest m s).link.outQ = withoutOwned m s.link.outQ := rfl

/-- The tries of a BLOCK spent (R87): the block is cleared, and ABANDON is sent once. -/
theorem exhaustTries_block (h : InFlightWith s m v sl) :
    OnlyMoveOf s (exhaustTries m .block s) v.circuit m ∧
      Undone (exhaustTries m .block s) m v .peerTimeout false
        (withoutOwned m s.link.outQ ++ [{ sending m v .abandon false sl with owner := none }]) := by
  obtain ⟨honly, hundone⟩ := undoMove_undone .peerTimeout false true (inFlightWith_endRequest h)
  rw [outQ_endRequest, withoutOwned_withoutOwned] at hundone
  exact ⟨onlyMoveOf_trans (onlyMoveOf_endRequest _) honly, hundone⟩

/-- The tries of a SWAP spent (R86): the block is held, and nothing is sent. -/
theorem exhaustTries_swap (h : InFlightWith s m v sl) :
    OnlyMoveOf s (exhaustTries m .swap s) v.circuit m ∧
      Undone (exhaustTries m .swap s) m v .swapUnresolved true (withoutOwned m s.link.outQ) := by
  obtain ⟨honly, hundone⟩ := undoMove_undone .swapUnresolved true false (inFlightWith_endRequest h)
  rw [outQ_endRequest, withoutOwned_withoutOwned, singleAbandon, if_neg Bool.false_ne_true, List.append_nil] at hundone
  exact ⟨onlyMoveOf_trans (onlyMoveOf_endRequest _) honly, hundone⟩

/-- The tries of a BRIDGE or ROLLED spent (R98): the move fails. -/
theorem failHitless_endRequest (f : FaultCode) (h : InFlightWith s m v sl) :
    OnlyMoveOf s (failHitless m f (endRequest m s)) v.circuit m ∧ FailedInto s (failHitless m f (endRequest m s)) m v f ∧
      (failHitless m f (endRequest m s)).link.outQ = withoutOwned m s.link.outQ ++ [sending m v .abandon false sl] := by
  obtain ⟨honly, hfailed, hqueue⟩ := Alignment.failHitless_failed f (inFlightWith_endRequest h)
  rw [outQ_endRequest, withoutOwned_withoutOwned] at hqueue
  exact ⟨onlyMoveOf_trans (onlyMoveOf_endRequest _) honly, hfailed, hqueue⟩

/-- The tries of a RELEASE spent (R96): the move completes with the result of its roll. -/
theorem exhaustTries_release_of_made {r : MoveResult} (h : InFlightWith s m v sl) (hmade : v.made = some r) :
    OnlyMoveOf s (exhaustTries m .release s) v.circuit m ∧ (exhaustTries m .release s).move? m = none ∧
      ((exhaustTries m .release s).circ v.circuit).restsAt v.dir.targetRest ∧
      ((exhaustTries m .release s).circ v.circuit).lastResult = some r ∧
      (exhaustTries m .release s).link.outQ = withoutOwned m s.link.outQ := by
  obtain ⟨-, hmove, -⟩ := inFlightWith_endRequest h
  have hrelease : exhaustTries m .release s = completeMove m r (endRequest m s) := by
    simp only [exhaustTries, releaseMove, hmove, hmade]
  obtain ⟨honly, hcompleted⟩ := completeMove_completed r hmove
  rw [outQ_endRequest, withoutOwned_withoutOwned] at hcompleted
  rw [hrelease]
  exact ⟨onlyMoveOf_trans (onlyMoveOf_endRequest _) honly, hcompleted⟩

/-- Without a roll made there is nothing to complete. -/
theorem exhaustTries_release_of_none (h : s.move? m = some v) (hmade : v.made = none) :
    exhaustTries m .release s = endRequest m s := by
  simp only [exhaustTries, releaseMove, move?_endRequest h, hmade]

/-- The tries of an ABANDON spent (R99): the abandon ends. -/
theorem exhaustTries_abandon (h : InFlightWith s m v sl) :
    OnlyMoveOf s (exhaustTries m .abandon s) v.circuit m ∧ (exhaustTries m .abandon s).move? m = none ∧
      ((exhaustTries m .abandon s).circ v.circuit).restsAt v.dir.startRest ∧
      ((exhaustTries m .abandon s).circ v.circuit).lastFault = (s.circ v.circuit).lastFault ∧
      (exhaustTries m .abandon s).link.outQ = withoutOwned m s.link.outQ := by
  obtain ⟨-, hmove, -⟩ := inFlightWith_endRequest h
  obtain ⟨honly, hfinished⟩ := finishAbandon_finished hmove
  rw [outQ_endRequest, withoutOwned_withoutOwned] at hfinished
  exact ⟨onlyMoveOf_trans (onlyMoveOf_endRequest _) honly, hfinished⟩

theorem onlyMoveOf_exhaustTries (k : ReqKind) (h : InFlightWith s m v sl) :
    OnlyMoveOf s (exhaustTries m k s) v.circuit m := by
  cases k with
  | block => exact (exhaustTries_block h).left
  | swap => exact (exhaustTries_swap h).left
  | bridge | rolled => exact (failHitless_endRequest .peerTimeout h).left
  | abandon => exact (exhaustTries_abandon h).left
  | release =>
    cases hmade : v.made with
    | some r => exact (exhaustTries_release_of_made h hmade).left
    | none =>
      obtain ⟨-, hmove, -⟩ := h
      rw [exhaustTries_release_of_none hmove hmade]
      exact onlyMoveOf_endRequest _

end Repeating

/-! The other timers of a move (R85, R91, R92, R94, R95) -/

section Expiring

variable {s : State} {m : MoveId} {v : Move} {sl : SlotId}

theorem expireProgress_of_blocking (hmove : s.move? m = some v) (hdue : v.progress.isDue = true)
    (hstate : (s.circ v.circuit).state = .blocking) : expireProgress m s = undoMove m .peerStall false true s := by
  simp [expireProgress, hmove, hdue, hstate]

theorem expireProgress_of_rolled (hmove : s.move? m = some v) (hdue : v.progress.isDue = true)
    (hstate : (s.circ v.circuit).state = .rolled) : expireProgress m s = failHitless m .peerStall s := by
  simp [expireProgress, hmove, hdue, hstate]

theorem expireQuiet_of_due (hmove : s.move? m = some v) (hdue : v.quiet.isDue = true)
    (hstate : (s.circ v.circuit).state.awaitsRoll = true) : expireQuiet m s = failHitless m .rollWaitTimeout s := by
  simp [expireQuiet, hmove, hdue, hstate]

theorem expireValidity_of_due (hmove : s.move? m = some v) (hdue : v.validity.isDue = true)
    (hstate : (s.circ v.circuit).state = .aligned) : expireValidity m s = returnToBridged m s := by
  simp [expireValidity, hmove, hdue, hstate]

/-- The circuit in BRIDGED, at the tail of the alignment queue (R90). -/
def bridged (c : CircuitId) (s : State) : State :=
  (setMoveState c .bridged s).modAlign fun a => { a with queue := a.queue ++ [⟨c, true⟩] }

theorem modMove_id (m : MoveId) (s : State) : s.modMove m id = s := by
  have hslots : s.moves.slots.modify m (Option.map id) = s.moves.slots := by
    apply Table.ext_get
    intro j
    rw [Table.get_modify, Option.map_id, id, ite_self]
  rw [State.modMove, hslots]

/-- A change of a move that leaves it as it is, or gives it a rescue or idle roll and ends its wait for a ROLL command. -/
def GivesRoll (v : Move) (f : Move → Move) : Prop :=
  f v = v ∨ ∃ d, d.kind ≠ .hitless ∧ f v = { v with rollDue := some d, validity := .stopped }

theorem giveRescue_givesRoll (v : Move) : ∃ f, giveRescue m s = s.modMove m f ∧ GivesRoll v f := by
  refine ⟨_, rfl, ?_⟩
  by_cases h : v.rollDue.any fun d => d.kind = .rescue
  · exact .inl (if_pos h)
  · exact .inr ⟨⟨s.now + 1, .rescue⟩, by simp, if_neg h⟩

theorem giveIdleRoll_givesRoll (v : Move) : ∃ f, giveIdleRoll m s = s.modMove m f ∧ GivesRoll v f := by
  refine ⟨_, rfl, ?_⟩
  by_cases h : v.rollDue.isNone
  · exact .inr ⟨⟨nextBoundary s.now, .idleRoll⟩, by simp, if_pos h⟩
  · exact .inl (if_neg h)

/-- An entry into BRIDGED may give the move a rescue roll or an idle roll, and changes nothing else of it (R90). -/
theorem enterBridged_of_move (hmove : s.move? m = some v) :
    ∃ f, enterBridged m s = (bridged v.circuit s).modMove m f ∧ GivesRoll v f := by
  simp only [enterBridged, hmove]
  split
  · exact giveRescue_givesRoll v
  · split
    · exact giveIdleRoll_givesRoll v
    · exact ⟨id, (modMove_id m _).symm, .inl rfl⟩

/-- The move without its result, its wait for a ROLL command and a HITLESS roll (R91, R92). -/
def withoutResult (w : Move) : Move :=
  { w with
    result := none
    validity := .stopped
    rollDue := if w.rollDue.any fun d => d.kind = .hitless then none else w.rollDue }

theorem rollDue_withoutResult {d : RollDue} (h : (withoutResult v).rollDue = some d) : d.kind ≠ .hitless := by
  intro hkind
  simp only [withoutResult] at h
  split at h
  · cases h
  · next hnot => simp [h, hkind] at hnot

/-- A circuit that loses its result is back in BRIDGED at the queue's tail, with no HITLESS roll due (R91). -/
theorem returnToBridged_returned (hmove : s.move? m = some v) :
    OnlyMoveOf s (returnToBridged m s) v.circuit m ∧
      (returnToBridged m s).circ v.circuit = { s.circ v.circuit with state := .bridged } ∧
      (∃ w, (returnToBridged m s).move? m = some w ∧ w.result = none ∧ w.validity = .stopped ∧ w.quiet = v.quiet ∧
        ∀ d, w.rollDue = some d → d.kind ≠ .hitless) ∧
      (returnToBridged m s).align.queue = s.align.queue ++ [⟨v.circuit, true⟩] ∧ (returnToBridged m s).link = s.link := by
  have hmove' : (s.modMove m withoutResult).move? m = some (withoutResult v) := by
    rw [Alignment.move?_modMove_self, hmove]
    rfl
  obtain ⟨f, hentered, hf⟩ := enterBridged_of_move hmove'
  have hreturn : returnToBridged m s = (bridged v.circuit (s.modMove m withoutResult)).modMove m f := hentered
  have hcircuits : (returnToBridged m s).circuits = s.circuits.modify v.circuit fun r => { r with state := .bridged } := by
    rw [hreturn]
    rfl
  have hslots : (returnToBridged m s).moves.slots = s.moves.slots.modify m (Option.map fun w => f (withoutResult w)) := by
    rw [hreturn]
    simp [bridged, setMoveState, MapLoading.modify_modify, Option.map_map, Function.comp_def]
  refine ⟨Alignment.onlyMoveOf_of_modify hcircuits hslots, Alignment.circ_of_modify hcircuits,
    ⟨f (withoutResult v), ?_, ?_⟩, ?_, ?_⟩
  · rw [Alignment.move?_of_modify hslots, hmove]
    rfl
  · rcases hf with hf | ⟨d, hkind, hf⟩
    · rw [hf]
      exact ⟨rfl, rfl, rfl, fun d => rollDue_withoutResult⟩
    · rw [hf]
      exact ⟨rfl, rfl, rfl, fun d' hd => Option.some.inj hd ▸ hkind⟩
  · rw [hreturn]
    rfl
  · rw [hreturn]
    rfl

/-- The move with its soak timer's expiry taken (R95). -/
def soaked (v w : Move) : Move := { w with soak := .expired v.soak.count }

theorem expireSoak_of_due (hmove : s.move? m = some v) (hdue : v.soak.isDue = true)
    (hstate : (s.circ v.circuit).state = .rolled) :
    expireSoak m s =
      if (s.info v.circuit).pin || v.request.isSome then s.modMove m (soaked v)
      else makeRequest m .release false (s.modMove m (soaked v)) := by
  simp only [expireSoak, hmove, hdue, hstate, decide_true, Bool.and_self, if_true]
  rfl

theorem inFlightWith_soaked (h : InFlightWith s m v sl) :
    InFlightWith (s.modMove m (soaked v)) m (soaked v v) sl := by
  obtain ⟨hpower, hmove, hslot, husable, hroom⟩ := h
  refine ⟨hpower, ?_, hslot, husable, hroom⟩
  rw [Alignment.move?_modMove_self, hmove]
  rfl

/-- The expiry of the soak timer is taken; RELEASE becomes the pending request unless the circuit is pinned or a request is
pending (R95). -/
theorem expireSoak_expired (h : InFlightWith s m v sl) (hdue : v.soak.isDue = true)
    (hstate : (s.circ v.circuit).state = .rolled) :
    OnlyMoveOf s (expireSoak m s) v.circuit m ∧ (expireSoak m s).circuits = s.circuits ∧
      ((s.info v.circuit).pin = true →
        (expireSoak m s).move? m = some (soaked v v) ∧ (expireSoak m s).link = s.link) ∧
      ((s.info v.circuit).pin = false → v.request = none →
        (expireSoak m s).move? m = some { soaked v v with request := some (freshRequest s .release false) } ∧
        (expireSoak m s).link.outQ = withoutOwned m s.link.outQ ++ [sending m v .release false sl]) := by
  have hsoaked := inFlightWith_soaked h
  obtain ⟨-, hmove, -⟩ := h
  obtain ⟨-, hmove', -⟩ := id hsoaked
  rw [expireSoak_of_due hmove hdue hstate]
  split
  · next hwaits =>
    refine ⟨onlyMoveOf_of_slots rfl rfl, rfl, fun _ => ⟨hmove', rfl⟩, fun hpin hnone => ?_⟩
    simp [hpin, hnone] at hwaits
  · next hsends =>
    have hslots := Alignment.slots_makeRequest .release false hsoaked
    have hqueue := Alignment.outQ_makeRequest .release false hsoaked
    have hcircuits : (makeRequest m .release false (s.modMove m (soaked v))).circuits = s.circuits := by simp
    refine ⟨?_, hcircuits, fun hpin => ?_, fun _ _ => ⟨?_, hqueue⟩⟩
    · rw [modMove_moves, MapLoading.modify_modify] at hslots
      exact onlyMoveOf_of_slots hcircuits hslots
    · simp [hpin] at hsends
    · rw [Alignment.move?_of_modify hslots, hmove']
      rfl

end Expiring

/-- Settles O33: with tries left a due request is sent or waits again, with none left it takes the outcome of its kind; each
other due timer undoes the move, fails it, returns its circuit to BRIDGED or sends RELEASE. -/
theorem moveTimersExpire : Obligations.MoveTimersExpire := by
  unfold Obligations.MoveTimersExpire
  refine ⟨fun s m v sl q hflight hreq hdue => ?repeats, fun s m v sl hflight => ?expires⟩
  case repeats =>
    obtain ⟨hpower, hmove, -⟩ := id hflight
    have hexec : exec (.repeatTimerExpiry m) s = .next (repeatRequest m s) := Alignment.whenPowered_on hpower _
    rw [hexec, repeatRequest_of_due hmove hreq hdue]
    refine ⟨fun htries hqueued => ?again, fun htries hqueued => ?waits, fun htries => ?spent⟩
    case again =>
      rw [if_neg htries, hqueued, if_neg Bool.false_ne_true, offerRequest_room _ _ _ hflight]
      refine ⟨_, rfl, onlyMoveOf_of_slots rfl rfl, rfl, ?_, rfl⟩
      rw [State.move?, modLink_moves, modMove_moves, Table.get_modify_self, ← State.move?, hmove]
      rfl
    case waits => rw [if_neg htries, if_pos hqueued]
    case spent =>
      rw [if_pos htries]
      refine ⟨_, rfl, onlyMoveOf_exhaustTries q.kind hflight, fun hk => ?block, fun hk => ?swap, fun hk => ?hitless,
        fun r hk hmade => ?release, fun hk => ?abandon⟩
      case block => rw [hk]; exact (exhaustTries_block hflight).right
      case swap => rw [hk]; exact (exhaustTries_swap hflight).right
      case hitless => rcases hk with hk | hk <;> rw [hk] <;> exact (failHitless_endRequest .peerTimeout hflight).right
      case release => rw [hk]; exact (exhaustTries_release_of_made hflight hmade).right
      case abandon => rw [hk]; exact (exhaustTries_abandon hflight).right
  case expires =>
    obtain ⟨hpower, hmove, -⟩ := id hflight
    have hexec (f : State → State) : whenPowered s f = .next (f s) := Alignment.whenPowered_on hpower f
    refine ⟨fun hdue hstate => ?blocking, fun hdue hstate => ?rolled, fun hdue hstate => ?quiet, fun hdue hstate => ?validity,
      fun hdue hstate => ?soak⟩
    case blocking =>
      refine ⟨_, hexec _, ?_⟩
      rw [expireProgress_of_blocking hmove hdue hstate]
      exact undoMove_undone .peerStall false true hflight
    case rolled =>
      refine ⟨_, hexec _, ?_⟩
      rw [expireProgress_of_rolled hmove hdue hstate]
      exact Alignment.failHitless_failed .peerStall hflight
    case quiet =>
      refine ⟨_, hexec _, ?_⟩
      rw [expireQuiet_of_due hmove hdue hstate]
      exact Alignment.failHitless_failed .rollWaitTimeout hflight
    case validity =>
      refine ⟨_, hexec _, ?_⟩
      rw [expireValidity_of_due hmove hdue hstate]
      exact returnToBridged_returned hmove
    case soak =>
      exact ⟨_, hexec _, expireSoak_expired hflight hdue hstate⟩

end Sys2Proof.Machine.Coordination
